-- ==== Sys2Proof/Word.lean ====
section
/-! DEFINITION. The machine's words, and the finite name types that operands are written with
(registers, pairs, conditions, index registers). These are names only: what an encoding field selects stands
in Decode.lean, and what a name reads or writes stands in Machine/Ops.lean and Machine/Operands.lean. -/

namespace Sys2Proof

/-- An 8-bit cell or memory byte (R21). -/
abbrev Byte := BitVec 8

/-- A 16-bit composite, address or port (R22, R50). -/
abbrev Word := BitVec 16

/-- The 8-bit registers that a selector can name (R84); the cells are the active view's (R24). -/
inductive Reg8
  | b | c | d | e | h | l | a
  deriving DecidableEq, Repr

/-- What the 3-bit selector r8 resolves to (R84): a register cell, or INDIRECT-VIA-HL. -/
inductive Loc8
  | reg (r : Reg8)
  | atHL
  deriving DecidableEq, Repr

/-- The pair table rp (R85). -/
inductive Pair
  | bc | de | hl | sp
  deriving DecidableEq, Repr

/-- The pair table rp2 of PUSH and POP (R85). -/
inductive StackPair
  | bc | de | hl | af
  deriving DecidableEq, Repr

/-- The pair table of ADD IX,rp: p = 2 names the index register itself (R321). -/
inductive IndexPair
  | bc | de | self | sp
  deriving DecidableEq, Repr

/-- The index register a DD (IX) or FD (IY) byte selects (R320). -/
inductive Idx
  | ix | iy
  deriving DecidableEq, Repr

/-- The halves of an index register (R36). -/
inductive Half
  | high | low
  deriving DecidableEq, Repr

/-- The condition table (R86). -/
inductive Cond
  | nz | z | nc | c | po | pe | p | m
  deriving DecidableEq, Repr

/-- The flags of F, by this spec's names (R28). -/
inductive Flag
  | s | z | y | h | x | pv | n | c
  deriving DecidableEq, Repr

end Sys2Proof
end

