-- ==== Sys2Proof/Machine/Bits.lean ====
section
/-! DEFINITION. Bit fields, byte order, sign extension and parity: the helpers of R9 and R11. -/

namespace Sys2Proof

/-- `hi8(v)` (R9). -/
def hi8 (v : Word) : Byte := v.extractLsb' 8 8

/-- `lo8(v)` (R9). -/
def lo8 (v : Word) : Byte := v.extractLsb' 0 8

/-- `concat(hi, lo)`, the composite `hi:lo` (R9, R22). -/
def concat (hi lo : Byte) : Word := hi ++ lo

/-- `sext_16(d)` (R9). -/
def sext16 (d : Byte) : Word := d.signExtend 16

/-- How many of the eight bits are 1. -/
def popCount (v : Byte) : Nat :=
  (v.getLsbD 0).toNat + (v.getLsbD 1).toNat + (v.getLsbD 2).toNat + (v.getLsbD 3).toNat
    + (v.getLsbD 4).toNat + (v.getLsbD 5).toNat + (v.getLsbD 6).toNat + (v.getLsbD 7).toNat

/-- `parity(v)`: 1 when v has an even number of 1 bits (R11, R111). -/
def parity (v : Byte) : Bool := popCount v % 2 == 0

/-- A byte from its bits, bit 7 first. -/
def byteOf (b7 b6 b5 b4 b3 b2 b1 b0 : Bool) : Byte :=
  BitVec.ofNat 8 (128 * b7.toNat + 64 * b6.toNat + 32 * b5.toNat + 16 * b4.toNat
    + 8 * b3.toNat + 4 * b2.toNat + 2 * b1.toNat + b0.toNat)

/-- The place of a flag in F (R28). -/
def Flag.bit : Flag → Nat
  | .s => 7 | .z => 6 | .y => 5 | .h => 4 | .x => 3 | .pv => 2 | .n => 1 | .c => 0

/-- An operation byte from its fields x, y, z (R76). -/
def opByte (x : BitVec 2) (y z : BitVec 3) : Byte := x ++ y ++ z

/-- An operation byte from its fields x, p, q, z (R76: p = op[5:4], q = op[3]). -/
def opByteP (x p : BitVec 2) (q : BitVec 1) (z : BitVec 3) : Byte := x ++ p ++ q ++ z

def opX (op : Byte) : BitVec 2 := op.extractLsb' 6 2
def opY (op : Byte) : BitVec 3 := op.extractLsb' 3 3
def opZ (op : Byte) : BitVec 3 := op.extractLsb' 0 3
def opP (op : Byte) : BitVec 2 := op.extractLsb' 4 2
def opQ (op : Byte) : BitVec 1 := op.extractLsb' 3 1

end Sys2Proof
end

