-- ==== Sys2Proof/Config.lean ====
section
/-! DEFINITION. What an implementation fixes (the parameters of R7) and the free values of the model (R414).

The parameters are plain data that State carries: R431 and R439 list MEM_SIZE among the state, and R430 has the
host choose it at construction, so a statement over all states covers every choice of the parameters.
The free values are opaque: nothing can evaluate them, so a proof holds for every value of each. -/

namespace Sys2Proof

/-- The source of Y and X of SCF and CCF, the parameter SCF_CCF_XY (R7, R133). -/
inductive XySource
  | a | aOrF
  deriving DecidableEq, Repr

/-- The implementation parameters of R7. `memSize` is the 16-bit argument of `new` (R51); 0 is refused at
construction (R8). -/
structure Params where
  memSize : Word
  scfCcfXY : XySource
  outC0Value : Byte
  resetClearsMemory : Bool
  deriving DecidableEq, Repr

/-- The default values of R7. -/
def Params.default : Params :=
  { memSize := 65535, scfCcfXY := .a, outC0Value := 0, resetClearsMemory := true }

/-- The host oracle IoRead (R56, R414): the byte of the n-th draw, a read of this port. Free value, log entry 3. -/
opaque Config.ioRead : Nat → Word → Byte

/-- The bit of the n-th draw (R146, R283, R414). Free value, log entry 3. -/
opaque Config.drawBit : Nat → Bool

end Sys2Proof
end

