-- ==== Sys2Proof/Machine/State.lean ====
section
/-! DEFINITION. The machine's state as plain data: every cell the spec gives (R20 to R33, R51), the parameters
(R7), and the model's own two fields `draws` and `events`; the ways a step could stop; the state after reset
(R38, R430, R431). -/

namespace Sys2Proof.Machine

/-- One bank of the 8-bit register set A, F, B, C, D, E, H, L (R20). -/
structure Bank where
  a : Byte
  f : Byte
  b : Byte
  c : Byte
  d : Byte
  e : Byte
  h : Byte
  l : Byte
  deriving DecidableEq, Repr

/-- The interrupt mode IM, a value in 0, 1, 2 (R33). -/
inductive IntMode
  | im0 | im1 | im2
  deriving DecidableEq, Repr

/-- An event of the I/O port interface (R56). -/
inductive IoEvent
  | input (port : Word) (value : Byte)
  | output (port : Word) (value : Byte)
  deriving DecidableEq, Repr

structure State where
  /-- The primary bank P (R20). -/
  prim : Bank
  /-- The shadow bank S (R20). -/
  shad : Bank
  /-- ALT, the active-bank selector (R23). -/
  alt : Bool
  /-- I (R30). -/
  i : Byte
  /-- R, the refresh register (R31). -/
  r : Byte
  /-- IX = IXH:IXL (R22, R36). The halves are this field's two bytes, here and in `iy`, `sp` and `pc`. -/
  ix : Word
  /-- IY = IYH:IYL (R22, R36). -/
  iy : Word
  /-- SP = SPH:SPL (R35). -/
  sp : Word
  /-- PC = PCH:PCL (R34). -/
  pc : Word
  /-- HALTED (R32). -/
  halted : Bool
  /-- IFF1 (R33). -/
  iff1 : Bool
  /-- IFF2 (R33). -/
  iff2 : Bool
  /-- IM (R33). -/
  im : IntMode
  /-- The memory M (R51): (cell number, byte) pairs, cell numbers strictly rising, no entry 0, which is what an
  unlisted cell reads as (R430). -/
  mem : List Host.Cell
  /-- The parameters of R7, MEM_SIZE among them (R431). -/
  params : Params
  /-- The model's own: how many draws have been made (R414, log entry 3). -/
  draws : Nat
  /-- The model's own: the I/O events recorded so far (R56), the newest first (log entry 4). -/
  events : List IoEvent
  deriving DecidableEq, Repr

/-- The fault outcomes of a step: the set is empty (R400, R414). No constructor, so nothing raises one. -/
inductive Fault
  deriving DecidableEq, Repr

/-- The refusals. No step of this machine gives one; each is safe. -/
inductive Refusal
  /-- An arm of `exec` that has no meaning yet raises it; no arm does. Safe. -/
  | notModelled (mnemonic : String)
  /-- `exec` of a fall-through term whose inner instruction is no unprefixed row raises it: a term that no encoding
  decodes to (Instr.wellFormed), so no step gives it. Safe. -/
  | illFormed
  /-- The step raises it if the fetched bytes decoded to nothing; every four bytes decode (R8, R100), so no step
  gives it. Safe. -/
  | undecodable
  /-- Construction with MEM_SIZE = 0 raises it (R8, R401, R414): the configuration is refused, no core exists. Safe. -/
  | invalidConfiguration
  deriving DecidableEq, Repr

/-- What a meaning answers: a next state, a fault (none exists) or a refusal. -/
abbrev Result := Host.Outcome State Fault Refusal

/-- Every cell 0 (R38). -/
def Bank.zero : Bank := { a := 0, f := 0, b := 0, c := 0, d := 0, e := 0, h := 0, l := 0 }

/-- The state after construction with these parameters (R430(a), R431): every register cell 0, ALT = 0,
HALTED = 0, IFF1 = IFF2 = 0, IM = 0, every memory byte 0. `draws` and `events` are the model's own (log entries 3
and 4). -/
def State.fresh (params : Params) : State :=
  { prim := Bank.zero, shad := Bank.zero, alt := false, i := 0, r := 0, ix := 0, iy := 0, sp := 0, pc := 0,
    halted := false, iff1 := false, iff2 := false, im := .im0, mem := [], params := params, draws := 0,
    events := [] }

/-- The machine right after reset, with the default parameters (R7, R431). -/
def State.reset : State := State.fresh Params.default

end Sys2Proof.Machine
end

