-- ==== Sys2Proof/Machine/Ops.lean ====
section
/-! DEFINITION. The named operations over memory, registers, the stack, PC, R, the ports and the draws.
The spec gives this core no exception, so there is no operation that takes one (R400, R406); the operation that the
return instructions share stands at the end (R407). -/

namespace Sys2Proof.Machine

/-! ## Memory as a list of cells -/

/-- The byte of cell k: an unlisted cell holds 0 (R430). -/
def Memory.get : List Host.Cell → Nat → Byte
  | [], _ => 0
  | (k, v) :: rest, a => if k = a then v else Memory.get rest a

/-- The list without the entries of cell a. -/
def Memory.erase : List Host.Cell → Nat → List Host.Cell
  | [], _ => []
  | (k, v) :: rest, a => if k = a then Memory.erase rest a else (k, v) :: Memory.erase rest a

/-- The entry (a, v) put in its place by cell number. -/
def Memory.insert : List Host.Cell → Nat → Byte → List Host.Cell
  | [], a, v => [(a, v)]
  | (k, w) :: rest, a, v => if a < k then (a, v) :: (k, w) :: rest else (k, w) :: Memory.insert rest a v

/-- Cell a set to v, keeping the canonical form: writing 0 removes the entry. -/
def Memory.set (m : List Host.Cell) (a : Nat) (v : Byte) : List Host.Cell :=
  if v = 0 then Memory.erase m a else Memory.insert (Memory.erase m a) a v

/-- The canonical form: cell numbers strictly rising, no entry 0. -/
abbrev Memory.wf (m : List Host.Cell) : Prop :=
  m.Pairwise (fun c c' => c.1 < c'.1) ∧ ∀ c ∈ m, c.2 ≠ 0

/-! ## Memory as the core reaches it (20_memory.md) -/

/-- The cell that address a selects: a mod MEM_SIZE (R51). -/
def State.cell (s : State) (a : Word) : Nat := a.toNat % s.params.memSize.toNat

/-- `MemRead(a, 1)` (R52). -/
def State.read (s : State) (a : Word) : Byte := Memory.get s.mem (s.cell a)

/-- `MemWrite(a, 1, v)` (R53). -/
def State.write (s : State) (a : Word) (v : Byte) : State :=
  { s with mem := Memory.set s.mem (s.cell a) v }

/-- `MemRead(a, 2)`: the low byte at a, the high byte at a + 1, wrapping at 16 bits (R54). -/
def State.read16 (s : State) (a : Word) : Word := concat (s.read (a + 1)) (s.read a)

/-- `MemWrite(a, 2, v)`: the low byte at a first, then the high byte at a + 1 (R55). -/
def State.write16 (s : State) (a v : Word) : State := (s.write a (lo8 v)).write (a + 1) (hi8 v)

/-! ## Registers -/

/-- The active view's bank (R24). -/
def State.view (s : State) : Bank := if s.alt then s.shad else s.prim

/-- The other bank (R24). -/
def State.other (s : State) : Bank := if s.alt then s.prim else s.shad

/-- The active view's bank replaced. -/
def State.setView (s : State) (k : Bank) : State :=
  if s.alt then { s with shad := k } else { s with prim := k }

/-- The other bank replaced. -/
def State.setOther (s : State) (k : Bank) : State :=
  if s.alt then { s with prim := k } else { s with shad := k }

/-- A register cell of a bank. -/
def Bank.get (k : Bank) : Reg8 → Byte
  | .a => k.a | .b => k.b | .c => k.c | .d => k.d | .e => k.e | .h => k.h | .l => k.l

/-- A register cell of a bank replaced. -/
def Bank.set (k : Bank) (r : Reg8) (v : Byte) : Bank :=
  match r with
  | .a => { k with a := v } | .b => { k with b := v } | .c => { k with c := v } | .d => { k with d := v }
  | .e => { k with e := v } | .h => { k with h := v } | .l => { k with l := v }

/-- An active-view register (R10, R24). -/
def State.getReg (s : State) (r : Reg8) : Byte := s.view.get r

/-- An active-view register written. -/
def State.setReg (s : State) (r : Reg8) (v : Byte) : State := s.setView (s.view.set r v)

/-- The active-view F. -/
def State.getF (s : State) : Byte := s.view.f

/-- The active-view F written whole. -/
def State.setF (s : State) (v : Byte) : State := s.setView { s.view with f := v }

/-- A flag of the active-view F (R28, R147). -/
def State.flag (s : State) (g : Flag) : Bool := s.getF.getLsbD g.bit

/-- BC, DE, HL, AF: composites of the active view, high byte first (R22, R24). -/
def State.bc (s : State) : Word := concat s.view.b s.view.c
def State.de (s : State) : Word := concat s.view.d s.view.e
def State.hl (s : State) : Word := concat s.view.h s.view.l
def State.af (s : State) : Word := concat s.view.a s.view.f

def State.setBc (s : State) (v : Word) : State := s.setView { s.view with b := hi8 v, c := lo8 v }
def State.setDe (s : State) (v : Word) : State := s.setView { s.view with d := hi8 v, e := lo8 v }
def State.setHl (s : State) (v : Word) : State := s.setView { s.view with h := hi8 v, l := lo8 v }
def State.setAf (s : State) (v : Word) : State := s.setView { s.view with a := hi8 v, f := lo8 v }

/-- IX or IY, never redirected by ALT (R25). -/
def State.getIdx (s : State) : Idx → Word
  | .ix => s.ix
  | .iy => s.iy

def State.setIdx (s : State) (x : Idx) (v : Word) : State :=
  match x with
  | .ix => { s with ix := v }
  | .iy => { s with iy := v }

/-- IXH, IXL, IYH, IYL (R36). -/
def State.getHalf (s : State) (x : Idx) : Half → Byte
  | .high => hi8 (s.getIdx x)
  | .low => lo8 (s.getIdx x)

/-- A half written: the other half keeps its value (R327). -/
def State.setHalf (s : State) (x : Idx) (w : Half) (v : Byte) : State :=
  match w with
  | .high => s.setIdx x (concat v (lo8 (s.getIdx x)))
  | .low => s.setIdx x (concat (hi8 (s.getIdx x)) v)

/-- SP written (R35). -/
def State.setSp (s : State) (v : Word) : State := { s with sp := v }

/-- I written (R30). -/
def State.setI (s : State) (v : Byte) : State := { s with i := v }

/-- R written whole (R31). -/
def State.setRefresh (s : State) (v : Byte) : State := { s with r := v }

/-- IFF1 written (R33). -/
def State.setIff1 (s : State) (v : Bool) : State := { s with iff1 := v }

/-- IFF2 written (R33). -/
def State.setIff2 (s : State) (v : Bool) : State := { s with iff2 := v }

/-- IM written (R33). -/
def State.setIm (s : State) (m : IntMode) : State := { s with im := m }

/-- HALTED written (R32). -/
def State.setHalted (s : State) (v : Bool) : State := { s with halted := v }

/-! ## PC and R -/

/-- `PC <- target`. -/
def State.jump (s : State) (target : Word) : State := { s with pc := target }

/-- The default PC update, `PC <- (base + length) mod 2^16` (R95); the base is the PC the instruction began with. -/
def State.advance (s : State) (length : Word) : State := s.jump (s.pc + length)

/-- The target of a relative jump: the next instruction's address plus e (R78). -/
def State.relTarget (s : State) (e : Byte) : Word := s.pc + 2 + sext16 e

/-- `bumpR(k)`: R's low seven bits counted, bit 7 kept (R31). -/
def bumped (r : Byte) (k : Nat) : Byte := (r &&& 0x80) ||| ((r + BitVec.ofNat 8 k) &&& 0x7F)

def State.bumpR (s : State) (k : Nat) : State := s.setRefresh (bumped s.r k)

/-! ## The stack (R210) -/

/-- `push16(v)`. -/
def State.push16 (s : State) (v : Word) : State := (s.setSp (s.sp - 2)).write16 (s.sp - 2) v

/-- The word `pop16()` returns. -/
def State.top16 (s : State) : Word := s.read16 s.sp

/-- What `pop16()` does to the state. -/
def State.dropTop (s : State) : State := s.setSp (s.sp + 2)

/-! ## Draws and ports (R56, R146, R414) -/

/-- One draw made. -/
def State.drew (s : State) : State := { s with draws := s.draws + 1 }

/-- A free bit: the next draw. -/
def State.drawnBit (s : State) : Bool := Config.drawBit s.draws

/-- The byte `IoRead(port)` returns, a draw (R56). -/
def State.portByte (s : State) (port : Word) : Byte := Config.ioRead s.draws port

/-- An I/O event recorded. -/
def State.record (s : State) (e : IoEvent) : State := { s with events := e :: s.events }

/-- What `IoRead(port)` does to the state: the draw is made and the event recorded; no core state changes. -/
def State.portRead (s : State) (port : Word) : State := (s.record (.input port (s.portByte port))).drew

/-- `IoWrite(port, v)`: the event is recorded; no core state changes (R56). -/
def State.portWrite (s : State) (port : Word) (v : Byte) : State := s.record (.output port v)

/-! ## Control transfer shared by several instructions -/

/-- The call of CALL and RST: the return address pushed, then the jump (R222, R224). -/
def State.callTo (s : State) (ret target : Word) : State := (s.push16 ret).jump target

/-- `PC <- pop16()` (R212). -/
def State.returnPop (s : State) : State := s.dropTop.jump s.top16

/-- The return of RETN and RETI: `PC <- pop16(); IFF1 <- IFF2` (R280, R281, R407). -/
def State.returnFromInterrupt (s : State) : State := s.returnPop.setIff1 s.iff2

end Sys2Proof.Machine
end

