-- ==== Sys2Proof/Machine/Flags.lean ====
section
/-! DEFINITION. The ALU functions and every flag computation of 40_alu.md. A function answers its result and a
partial flag assignment; an unlisted flag keeps its value (R12, R110). -/

namespace Sys2Proof.Machine

/-- A partial flag assignment (R110): `none` leaves the flag untouched. -/
structure FlagSet where
  s : Option Bool := none
  z : Option Bool := none
  y : Option Bool := none
  h : Option Bool := none
  x : Option Bool := none
  pv : Option Bool := none
  n : Option Bool := none
  c : Option Bool := none
  deriving DecidableEq, Repr

def FlagSet.get (fl : FlagSet) : Flag → Option Bool
  | .s => fl.s | .z => fl.z | .y => fl.y | .h => fl.h | .x => fl.x | .pv => fl.pv | .n => fl.n | .c => fl.c

/-- The new value of a flag under an assignment. -/
def FlagSet.pick (fl : FlagSet) (f : Byte) (g : Flag) : Bool := (fl.get g).getD (f.getLsbD g.bit)

/-- `apply(F, assignment)` (R110). -/
def applyFlags (f : Byte) (fl : FlagSet) : Byte :=
  byteOf (fl.pick f .s) (fl.pick f .z) (fl.pick f .y) (fl.pick f .h)
    (fl.pick f .x) (fl.pick f .pv) (fl.pick f .n) (fl.pick f .c)

/-- `F <- apply(F, assignment)` on the active-view F (R147). -/
def State.assign (s : State) (fl : FlagSet) : State := s.setF (applyFlags s.getF fl)

/-- A single flag as an assignment. -/
def FlagSet.only (g : Flag) (v : Bool) : FlagSet :=
  match g with
  | .s => { s := some v } | .z => { z := some v } | .y => { y := some v } | .h => { h := some v }
  | .x => { x := some v } | .pv => { pv := some v } | .n => { n := some v } | .c => { c := some v }

/-- `g <- draw()` (R146). -/
def State.drawFlag (s : State) (g : Flag) : State := (s.assign (.only g s.drawnBit)).drew

/-- Y and X drawn, for BIT b,(HL) and for a repeating LDIR, LDDR, CPIR, CPDR iteration (R146). -/
def State.drawYX (s : State) : State := (s.drawFlag .y).drawFlag .x

/-- H, PV, Y and X drawn, for a repeating INIR, INDR, OTIR, OTDR iteration (R146). -/
def State.drawHPvYX (s : State) : State := (((s.drawFlag .h).drawFlag .pv).drawFlag .y).drawFlag .x

/-- `SZYX(v)` (R112). -/
def szyx (v : Byte) : FlagSet :=
  { s := some (v.getLsbD 7), z := some (v == 0), y := some (v.getLsbD 5), x := some (v.getLsbD 3) }

/-- `YX(v)` (R112). -/
def yx (v : Byte) : FlagSet := { y := some (v.getLsbD 5), x := some (v.getLsbD 3) }

/-! ## 8-bit arithmetic and logic -/

/-- `add8(a, b, c)` (R117). -/
def add8 (a b : Byte) (c : Bool) : Byte × FlagSet :=
  let t := a.toNat + b.toNat + c.toNat
  let res := BitVec.ofNat 8 t
  (res, { szyx res with
    h := some ((a ^^^ b ^^^ res).getLsbD 4)
    pv := some ((~~~(a ^^^ b) &&& (a ^^^ res)).getLsbD 7)
    n := some false
    c := some (decide (255 < t)) })

/-- `sub8(a, b, c)` (R118). -/
def sub8 (a b : Byte) (c : Bool) : Byte × FlagSet :=
  let t : Int := (a.toNat : Int) - b.toNat - c.toNat
  let res := BitVec.ofInt 8 t
  (res, { szyx res with
    h := some ((a ^^^ b ^^^ res).getLsbD 4)
    pv := some (((a ^^^ b) &&& (a ^^^ res)).getLsbD 7)
    n := some true
    c := some (decide (t < 0)) })

/-- `cp8(a, b)`: the flags of sub8, but Y and X from the operand (R119). -/
def cp8 (a b : Byte) : FlagSet :=
  { (sub8 a b false).2 with y := some (b.getLsbD 5), x := some (b.getLsbD 3) }

/-- The flags of the logical operations: H is h, C = N = 0, PV = parity (R120 to R122). -/
def logicFlags (res : Byte) (h : Bool) : FlagSet :=
  { szyx res with h := some h, pv := some (parity res), n := some false, c := some false }

/-- `and8` (R120). -/
def and8 (a b : Byte) : Byte × FlagSet := (a &&& b, logicFlags (a &&& b) true)

/-- `xor8` (R121). -/
def xor8 (a b : Byte) : Byte × FlagSet := (a ^^^ b, logicFlags (a ^^^ b) false)

/-- `or8` (R122). -/
def or8 (a b : Byte) : Byte × FlagSet := (a ||| b, logicFlags (a ||| b) false)

/-- `inc8(v)` (R123). -/
def inc8 (v : Byte) : Byte × FlagSet :=
  let res := v + 1
  (res, { szyx res with
    h := some (v &&& 0x0F == 0x0F)
    pv := some (v == 0x7F)
    n := some false })

/-- `dec8(v)` (R124). -/
def dec8 (v : Byte) : Byte × FlagSet :=
  let res := v - 1
  (res, { szyx res with
    h := some (v &&& 0x0F == 0x00)
    pv := some (v == 0x80)
    n := some true })

/-! ## 16-bit arithmetic -/

/-- `add16(a, b)` (R125). -/
def add16 (a b : Word) : Word × FlagSet :=
  let t := a.toNat + b.toNat
  let res := BitVec.ofNat 16 t
  (res, {
    y := some (res.getLsbD 13)
    h := some ((a ^^^ b ^^^ res).getLsbD 12)
    x := some (res.getLsbD 11)
    n := some false
    c := some (decide (0xFFFF < t)) })

/-- `adc16(a, b, c)` (R126). -/
def adc16 (a b : Word) (c : Bool) : Word × FlagSet :=
  let t := a.toNat + b.toNat + c.toNat
  let res := BitVec.ofNat 16 t
  (res, {
    s := some (res.getLsbD 15)
    z := some (res == 0)
    y := some (res.getLsbD 13)
    h := some ((a ^^^ b ^^^ res).getLsbD 12)
    x := some (res.getLsbD 11)
    pv := some ((~~~(a ^^^ b) &&& (a ^^^ res)).getLsbD 15)
    n := some false
    c := some (decide (0xFFFF < t)) })

/-- `sbc16(a, b, c)` (R127). -/
def sbc16 (a b : Word) (c : Bool) : Word × FlagSet :=
  let t : Int := (a.toNat : Int) - b.toNat - c.toNat
  let res := BitVec.ofInt 16 t
  (res, {
    s := some (res.getLsbD 15)
    z := some (res == 0)
    y := some (res.getLsbD 13)
    h := some ((a ^^^ b ^^^ res).getLsbD 12)
    x := some (res.getLsbD 11)
    pv := some (((a ^^^ b) &&& (a ^^^ res)).getLsbD 15)
    n := some true
    c := some (decide (t < 0)) })

/-! ## Rotates, shifts and bit tests -/

/-- A rotate or shift: the result and the bit shifted out, from the operand and F.C (R128, R129). -/
abbrev RotFn := Byte → Bool → Byte × Bool

def bit0 (c : Bool) : Byte := BitVec.ofNat 8 c.toNat
def bit7 (c : Bool) : Byte := BitVec.ofNat 8 (128 * c.toNat)

/-- `rlc` and `rlca`. -/
def rlc : RotFn := fun v _ => ((v <<< 1) ||| bit0 (v.getLsbD 7), v.getLsbD 7)
/-- `rrc` and `rrca`. -/
def rrc : RotFn := fun v _ => ((v >>> 1) ||| bit7 (v.getLsbD 0), v.getLsbD 0)
/-- `rl` and `rla`. -/
def rl : RotFn := fun v cin => ((v <<< 1) ||| bit0 cin, v.getLsbD 7)
/-- `rr` and `rra`. -/
def rr : RotFn := fun v cin => ((v >>> 1) ||| bit7 cin, v.getLsbD 0)
/-- `sla`. -/
def sla : RotFn := fun v _ => (v <<< 1, v.getLsbD 7)
/-- `sra`. -/
def sra : RotFn := fun v _ => ((v >>> 1) ||| (v &&& 0x80), v.getLsbD 0)
/-- `sll`. -/
def sll : RotFn := fun v _ => ((v <<< 1) ||| 1, v.getLsbD 7)
/-- `srl`. -/
def srl : RotFn := fun v _ => (v >>> 1, v.getLsbD 0)

/-- The flags of the accumulator rotates (R128): S, Z and PV untouched. -/
def accRotFlags (res : Byte) (cout : Bool) : FlagSet :=
  { yx res with h := some false, n := some false, c := some cout }

/-- The flags of the CB and DDCB rotates and shifts (R129, R263). -/
def rotFlags (res : Byte) (cout : Bool) : FlagSet :=
  { szyx res with h := some false, pv := some (parity res), n := some false, c := some cout }

/-- `bit(b, v, xy)` (R130). -/
def bitFlags (b : BitVec 3) (v xy : Byte) : FlagSet :=
  { s := some (b == 7 && v.getLsbD 7)
    z := some (!v.getLsbD b.toNat)
    y := some (xy.getLsbD 5)
    h := some true
    x := some (xy.getLsbD 3)
    pv := some (!v.getLsbD b.toNat)
    n := some false }

/-- `1 << b`. -/
def bitMask (b : BitVec 3) : Byte := 1#8 <<< b.toNat

/-! ## Accumulator adjust and flag operations -/

/-- `daa()` from A and F.N, F.H, F.C (R131). -/
def daa (a : Byte) (n h c : Bool) : Byte × FlagSet :=
  let lo := a &&& 0x0F
  let low : Byte := if h || decide (9 < lo.toNat) then 0x06 else 0
  let high : Bool := c || decide (0x99 < a.toNat)
  let corr : Byte := low ||| (if high then 0x60 else 0)
  let res := if n then a - corr else a + corr
  let hout := if n then h && decide (lo.toNat < 6) else decide (9 < lo.toNat)
  (res, { szyx res with h := some hout, pv := some (parity res), c := some high })

/-- `cpl()` (R132). -/
def cpl (a : Byte) : Byte × FlagSet :=
  (a ^^^ 0xFF, { yx (a ^^^ 0xFF) with h := some true, n := some true })

/-- The byte `xyq` that SCF and CCF take Y and X from (R133). -/
def scfCcfByte (src : XySource) (a f : Byte) : Byte :=
  match src with
  | .a => a
  | .aOrF => a ||| f

/-- `scf()` (R133). -/
def scfFlags (xyq : Byte) : FlagSet :=
  { yx xyq with h := some false, n := some false, c := some true }

/-- `ccf()`, from the old F.C (R134). -/
def ccfFlags (xyq : Byte) (c : Bool) : FlagSet :=
  { yx xyq with h := some c, n := some false, c := some (!c) }

/-! ## The ED special instructions -/

/-- LD A,I and LD A,R (R136). -/
def ldAirFlags (v : Byte) (iff2 : Bool) : FlagSet :=
  { szyx v with h := some false, pv := some iff2, n := some false }

/-- LDI, LDD and the last iteration of LDIR, LDDR (R137). -/
def ldFlags (a v : Byte) (bcNew : Word) : FlagSet :=
  let k := a + v
  { y := some (k.getLsbD 1), h := some false, x := some (k.getLsbD 3)
    pv := some (bcNew != 0), n := some false }

/-- CPI, CPD and the last iteration of CPIR, CPDR (R138). -/
def cpFlags (a v : Byte) (bcNew : Word) : FlagSet :=
  let res := a - v
  let h := (a ^^^ v ^^^ res).getLsbD 4
  let k := res - bit0 h
  { s := some (res.getLsbD 7), z := some (res == 0), y := some (k.getLsbD 1), h := some h
    x := some (k.getLsbD 3), pv := some (bcNew != 0), n := some true }

/-- INI, IND, OUTI, OUTD and the last iteration of their repeats, m as R139 says. -/
def ioFlags (v m bNew : Byte) : FlagSet :=
  let k := v.toNat + m.toNat
  { szyx bNew with
    h := some (decide (255 < k))
    pv := some (parity ((BitVec.ofNat 8 k &&& 7) ^^^ bNew))
    n := some (v.getLsbD 7)
    c := some (decide (255 < k)) }

/-- RLD and RRD from the new A (R140), IN r,(C) and IN (C) from the byte read (R141). -/
def szpFlags (v : Byte) : FlagSet :=
  { szyx v with h := some false, pv := some (parity v), n := some false }

end Sys2Proof.Machine
end

