-- ==== Sys2Proof/Machine/Operands.lean ====
section
/-! DEFINITION. The operand forms: r8 with INDIRECT-VIA-HL, the register pairs, conditions and (IX+d) (R84 to R86,
R320), and the operations on the accumulator and on a byte operand that several instructions share. -/

namespace Sys2Proof.Machine

/-- r8[s] read: reading r8[6] is MemRead(HL, 1) (R84). -/
def State.getLoc (s : State) : Loc8 → Byte
  | .reg r => s.getReg r
  | .atHL => s.read s.hl

/-- r8[s] written: writing r8[6] is MemWrite(HL, 1, v) (R84). -/
def State.setLoc (s : State) (loc : Loc8) (v : Byte) : State :=
  match loc with
  | .reg r => s.setReg r v
  | .atHL => s.write s.hl v

/-- rp[p] read (R85). -/
def State.getPair (s : State) : Pair → Word
  | .bc => s.bc | .de => s.de | .hl => s.hl | .sp => s.sp

/-- rp[p] written. -/
def State.setPair (s : State) (p : Pair) (v : Word) : State :=
  match p with
  | .bc => s.setBc v | .de => s.setDe v | .hl => s.setHl v | .sp => s.setSp v

/-- rp2[p] read (R85). -/
def State.getStackPair (s : State) : StackPair → Word
  | .bc => s.bc | .de => s.de | .hl => s.hl | .af => s.af

/-- rp2[p] written; for AF the low byte goes to F, all eight bits (R213). -/
def State.setStackPair (s : State) (p : StackPair) (v : Word) : State :=
  match p with
  | .bc => s.setBc v | .de => s.setDe v | .hl => s.setHl v | .af => s.setAf v

/-- The pair that ADD IX,rp adds (R321). -/
def State.getIndexPair (s : State) (x : Idx) : IndexPair → Word
  | .bc => s.bc | .de => s.de | .self => s.getIdx x | .sp => s.sp

/-- cond[c] (R86). -/
def State.cond (s : State) : Cond → Bool
  | .nz => !s.flag .z | .z => s.flag .z | .nc => !s.flag .c | .c => s.flag .c
  | .po => !s.flag .pv | .pe => s.flag .pv | .p => !s.flag .s | .m => s.flag .s

/-- The address of (IX+d): (IX + sext_16(d)) mod 2^16 (R36, R320). -/
def State.idxAddr (s : State) (x : Idx) (d : Byte) : Word := s.getIdx x + sext16 d

/-- The copy of a DDCB form into a real register, when there is one (R93, R380). -/
def State.copyTo (s : State) (copy : Option Reg8) (v : Byte) : State :=
  match copy with
  | some r => s.setReg r v
  | none => s

/-! ## The accumulator operations alu[y], on an operand byte (R87, R195) -/

def State.setA (s : State) (v : Byte) : State := s.setReg .a v

/-- `A <- res; F <- apply(F, fl)`. -/
def State.toA (s : State) (p : Byte × FlagSet) : State := (s.setA p.1).assign p.2

def State.addA (s : State) (v : Byte) : State := s.toA (add8 (s.getReg .a) v false)
def State.adcA (s : State) (v : Byte) : State := s.toA (add8 (s.getReg .a) v (s.flag .c))
def State.subA (s : State) (v : Byte) : State := s.toA (sub8 (s.getReg .a) v false)
def State.sbcA (s : State) (v : Byte) : State := s.toA (sub8 (s.getReg .a) v (s.flag .c))
def State.andA (s : State) (v : Byte) : State := s.toA (and8 (s.getReg .a) v)
def State.xorA (s : State) (v : Byte) : State := s.toA (xor8 (s.getReg .a) v)
def State.orA (s : State) (v : Byte) : State := s.toA (or8 (s.getReg .a) v)
/-- CP writes no register (R195, R203). -/
def State.cpA (s : State) (v : Byte) : State := s.assign (cp8 (s.getReg .a) v)

/-! ## Read-modify-write of a byte operand -/

/-- `v <- r8[y]; (res, fl) <- f(v); r8[y] <- res; F <- apply(F, fl)` (R164, R165). -/
def State.modifyLoc (s : State) (loc : Loc8) (f : Byte → Byte × FlagSet) : State :=
  (s.setLoc loc (f (s.getLoc loc)).1).assign (f (s.getLoc loc)).2

/-- The same on the memory byte at an address (R330, R331). -/
def State.modifyAt (s : State) (addr : Word) (f : Byte → Byte × FlagSet) : State :=
  (s.write addr (f (s.read addr)).1).assign (f (s.read addr)).2

/-- The same on a half of an index register (R327, R328). -/
def State.modifyHalf (s : State) (x : Idx) (w : Half) (f : Byte → Byte × FlagSet) : State :=
  (s.setHalf x w (f (s.getHalf x w)).1).assign (f (s.getHalf x w)).2

/-- An accumulator rotate (R128). -/
def State.rotA (s : State) (f : RotFn) : State :=
  let r := f (s.getReg .a) (s.flag .c)
  (s.setA r.1).assign (accRotFlags r.1 r.2)

/-- A CB rotate or shift of r8[z] (R263). -/
def State.rotLoc (s : State) (f : RotFn) (loc : Loc8) : State :=
  let r := f (s.getLoc loc) (s.flag .c)
  (s.setLoc loc r.1).assign (rotFlags r.1 r.2)

/-- A DDCB rotate or shift of the byte at addr, with its copy (R380). -/
def State.rotAt (s : State) (f : RotFn) (addr : Word) (copy : Option Reg8) : State :=
  let r := f (s.read addr) (s.flag .c)
  ((s.write addr r.1).copyTo copy r.1).assign (rotFlags r.1 r.2)

/-- The memory byte at addr set to v, with its copy (R390, R391). -/
def State.storeCopy (s : State) (addr : Word) (v : Byte) (copy : Option Reg8) : State :=
  (s.write addr v).copyTo copy v

end Sys2Proof.Machine
end

