-- ==== Sys2Proof/Machine/Accumulator.lean ====
section
/-! DEFINITION. The operations on A and F alone: the accumulator rotates, DAA, CPL, SCF, CCF (41_class00.md), NEG, RRD and RLD
(46_ed_prefix.md). -/

namespace Sys2Proof.Machine

/-- `RLCA` (R167). -/
def execRlca (s : State) : Result := .next ((s.rotA rlc).advance 1)

/-- `RRCA` (R168). -/
def execRrca (s : State) : Result := .next ((s.rotA rrc).advance 1)

/-- `RLA` (R169). -/
def execRla (s : State) : Result := .next ((s.rotA rl).advance 1)

/-- `RRA` (R170). -/
def execRra (s : State) : Result := .next ((s.rotA rr).advance 1)

/-- `DAA` (R171). -/
def execDaa (s : State) : Result :=
  .next ((s.toA (daa (s.getReg .a) (s.flag .n) (s.flag .h) (s.flag .c))).advance 1)

/-- `CPL` (R172). -/
def execCpl (s : State) : Result := .next ((s.toA (cpl (s.getReg .a))).advance 1)

/-- `SCF` (R173). -/
def execScf (s : State) : Result :=
  .next ((s.assign (scfFlags (scfCcfByte s.params.scfCcfXY (s.getReg .a) s.getF))).advance 1)

/-- `CCF` (R174). -/
def execCcf (s : State) : Result :=
  .next ((s.assign (ccfFlags (scfCcfByte s.params.scfCcfXY (s.getReg .a) s.getF) (s.flag .c))).advance 1)

/-- `NEG`, every y (R279). -/
def execNeg (_ : BitVec 3) (s : State) : Result := .next ((s.toA (sub8 0 (s.getReg .a) false)).advance 2)

/-- `RRD` (R290). -/
def execRrd (s : State) : Result :=
  let a := s.getReg .a
  let v := s.read s.hl
  let an := (a &&& 0xF0) ||| (v &&& 0x0F)
  .next (((s.write s.hl (((a &&& 0x0F) <<< 4) ||| (v >>> 4))).toA (an, szpFlags an)).advance 2)

/-- `RLD` (R291). -/
def execRld (s : State) : Result :=
  let a := s.getReg .a
  let v := s.read s.hl
  let an := (a &&& 0xF0) ||| (v >>> 4)
  .next (((s.write s.hl ((v <<< 4) ||| (a &&& 0x0F))).toA (an, szpFlags an)).advance 2)

end Sys2Proof.Machine
end

