-- ==== Sys2Proof/Machine/Alu.lean ====
section
/-! DEFINITION. 8-bit arithmetic and logic of the unprefixed table (43_class10_alu.md, 44_class11.md, 41_class00.md). -/

namespace Sys2Proof.Machine

/-! ## alu[y] with r8[z] (R195) -/

/-- `ADD A,r`, `ADD A,(HL)` (R196). -/
def execAddAR (z : Loc8) (s : State) : Result := .next ((s.addA (s.getLoc z)).advance 1)

/-- `ADC A,r`, `ADC A,(HL)` (R197). -/
def execAdcAR (z : Loc8) (s : State) : Result := .next ((s.adcA (s.getLoc z)).advance 1)

/-- `SUB r`, `SUB (HL)` (R198). -/
def execSubR (z : Loc8) (s : State) : Result := .next ((s.subA (s.getLoc z)).advance 1)

/-- `SBC A,r`, `SBC A,(HL)` (R199). -/
def execSbcAR (z : Loc8) (s : State) : Result := .next ((s.sbcA (s.getLoc z)).advance 1)

/-- `AND r`, `AND (HL)` (R200). -/
def execAndR (z : Loc8) (s : State) : Result := .next ((s.andA (s.getLoc z)).advance 1)

/-- `XOR r`, `XOR (HL)` (R201). -/
def execXorR (z : Loc8) (s : State) : Result := .next ((s.xorA (s.getLoc z)).advance 1)

/-- `OR r`, `OR (HL)` (R202). -/
def execOrR (z : Loc8) (s : State) : Result := .next ((s.orA (s.getLoc z)).advance 1)

/-- `CP r`, `CP (HL)` (R203). -/
def execCpR (z : Loc8) (s : State) : Result := .next ((s.cpA (s.getLoc z)).advance 1)

/-! ## alu[y] with an immediate (R237) -/

/-- `ADD A,n` (R229). -/
def execAddAN (n : Byte) (s : State) : Result := .next ((s.addA n).advance 2)

/-- `ADC A,n` (R230). -/
def execAdcAN (n : Byte) (s : State) : Result := .next ((s.adcA n).advance 2)

/-- `SUB n` (R231). -/
def execSubN (n : Byte) (s : State) : Result := .next ((s.subA n).advance 2)

/-- `SBC A,n` (R232). -/
def execSbcAN (n : Byte) (s : State) : Result := .next ((s.sbcA n).advance 2)

/-- `AND n` (R233). -/
def execAndN (n : Byte) (s : State) : Result := .next ((s.andA n).advance 2)

/-- `XOR n` (R234). -/
def execXorN (n : Byte) (s : State) : Result := .next ((s.xorA n).advance 2)

/-- `OR n` (R235). -/
def execOrN (n : Byte) (s : State) : Result := .next ((s.orA n).advance 2)

/-- `CP n` (R236). -/
def execCpN (n : Byte) (s : State) : Result := .next ((s.cpA n).advance 2)

/-! ## INC and DEC of r8[y] -/

/-- `INC r`, `INC (HL)` (R164). -/
def execIncR (y : Loc8) (s : State) : Result := .next ((s.modifyLoc y inc8).advance 1)

/-- `DEC r`, `DEC (HL)` (R165). -/
def execDecR (y : Loc8) (s : State) : Result := .next ((s.modifyLoc y dec8).advance 1)

end Sys2Proof.Machine
end

