-- ==== Sys2Proof/Machine/Arith16.lean ====
section
/-! DEFINITION. 16-bit arithmetic of the unprefixed and ED tables (41_class00.md, 46_ed_prefix.md). -/

namespace Sys2Proof.Machine

/-- `HL <- res; F <- apply(F, fl)`. -/
def State.toHl (s : State) (p : Word × FlagSet) : State := (s.setHl p.1).assign p.2

/-- `ADD HL,rp` (R153). -/
def execAddHlRp (p : Pair) (s : State) : Result := .next ((s.toHl (add16 s.hl (s.getPair p))).advance 1)

/-- `INC rp` (R162): no flag. -/
def execIncRp (p : Pair) (s : State) : Result := .next ((s.setPair p (s.getPair p + 1)).advance 1)

/-- `DEC rp` (R163): no flag. -/
def execDecRp (p : Pair) (s : State) : Result := .next ((s.setPair p (s.getPair p - 1)).advance 1)

/-- `SBC HL,rp` (R275). -/
def execSbcHlRp (p : Pair) (s : State) : Result :=
  .next ((s.toHl (sbc16 s.hl (s.getPair p) (s.flag .c))).advance 2)

/-- `ADC HL,rp` (R276). -/
def execAdcHlRp (p : Pair) (s : State) : Result :=
  .next ((s.toHl (adc16 s.hl (s.getPair p) (s.flag .c))).advance 2)

end Sys2Proof.Machine
end

