-- ==== Sys2Proof/Machine/Bit.lean ====
section
/-! DEFINITION. The CB table (45_cb_prefix.md). -/

namespace Sys2Proof.Machine

/-! ## Rotates and shifts (R263) -/

/-- `RLC r`, `RLC (HL)` (R251). -/
def execRlcR (z : Loc8) (s : State) : Result := .next ((s.rotLoc rlc z).advance 2)

/-- `RRC r`, `RRC (HL)` (R252). -/
def execRrcR (z : Loc8) (s : State) : Result := .next ((s.rotLoc rrc z).advance 2)

/-- `RL r`, `RL (HL)` (R253). -/
def execRlR (z : Loc8) (s : State) : Result := .next ((s.rotLoc rl z).advance 2)

/-- `RR r`, `RR (HL)` (R254). -/
def execRrR (z : Loc8) (s : State) : Result := .next ((s.rotLoc rr z).advance 2)

/-- `SLA r`, `SLA (HL)` (R255). -/
def execSlaR (z : Loc8) (s : State) : Result := .next ((s.rotLoc sla z).advance 2)

/-- `SRA r`, `SRA (HL)` (R256). -/
def execSraR (z : Loc8) (s : State) : Result := .next ((s.rotLoc sra z).advance 2)

/-- `SLL r`, `SLL (HL)` (R257). -/
def execSllR (z : Loc8) (s : State) : Result := .next ((s.rotLoc sll z).advance 2)

/-- `SRL r`, `SRL (HL)` (R258). -/
def execSrlR (z : Loc8) (s : State) : Result := .next ((s.rotLoc srl z).advance 2)

/-! ## BIT, RES, SET -/

/-- `BIT b,r` (R259). -/
def execBitR (b : BitVec 3) (r : Reg8) (s : State) : Result :=
  .next ((s.assign (bitFlags b (s.getReg r) (s.getReg r))).advance 2)

/-- `BIT b,(HL)`: Y and X are draws (R260, R146), made after the other flags. -/
def execBitAtHl (b : BitVec 3) (s : State) : Result :=
  .next ((s.assign (bitFlags b (s.read s.hl) (s.read s.hl))).drawYX.advance 2)

/-- `RES b,r`, `RES b,(HL)` (R261): no flag. -/
def execResR (b : BitVec 3) (z : Loc8) (s : State) : Result :=
  .next ((s.setLoc z (s.getLoc z &&& ~~~(bitMask b))).advance 2)

/-- `SET b,r`, `SET b,(HL)` (R262): no flag. -/
def execSetR (b : BitVec 3) (z : Loc8) (s : State) : Result :=
  .next ((s.setLoc z (s.getLoc z ||| bitMask b)).advance 2)

end Sys2Proof.Machine
end

