-- ==== Sys2Proof/Machine/Block.lean ====
section
/-! DEFINITION. The block instructions of the ED table (46_ed_prefix.md). One step is one iteration; a repeating form whose
condition holds leaves PC at pc0 (R292). -/

namespace Sys2Proof.Machine

/-- `dir`: +1 for the I forms, -1 for the D forms (R292). -/
inductive Dir
  | inc | dec
  deriving DecidableEq, Repr

/-- A pointer stepped by dir (R292). -/
def Dir.step (dir : Dir) (v : Word) : Word :=
  match dir with
  | .inc => v + 1
  | .dec => v - 1

/-- C stepped by dir, the m of the IN forms (R139). -/
def Dir.stepByte (dir : Dir) (v : Byte) : Byte :=
  match dir with
  | .inc => v + 1
  | .dec => v - 1

/-- One iteration of LDI or LDD without its PC update (R293, R294). -/
def State.ldIteration (s : State) (dir : Dir) : State :=
  let v := s.read s.hl
  let t := (((s.write s.de v).setHl (dir.step s.hl)).setDe (dir.step s.de)).setBc (s.bc - 1)
  t.assign (ldFlags (t.getReg .a) v t.bc)

/-- One iteration of CPI or CPD without its PC update (R297, R298). -/
def State.cpIteration (s : State) (dir : Dir) : State :=
  let v := s.read s.hl
  let t := (s.setHl (dir.step s.hl)).setBc (s.bc - 1)
  t.assign (cpFlags (t.getReg .a) v t.bc)

/-- One iteration of INI or IND without its PC update: the port is BC before B is decremented (R301, R302). -/
def State.inIteration (s : State) (dir : Dir) : State :=
  let v := s.portByte s.bc
  let t := ((((s.portRead s.bc).write s.hl v).setHl (dir.step s.hl)).setReg .b (s.getReg .b - 1))
  t.assign (ioFlags v (dir.stepByte (t.getReg .c)) (t.getReg .b))

/-- One iteration of OUTI or OUTD without its PC update: the port is BC after B is decremented, and the flags take the
new L (R305, R306). -/
def State.outIteration (s : State) (dir : Dir) : State :=
  let v := s.read s.hl
  let t := s.setReg .b (s.getReg .b - 1)
  let t := (t.portWrite t.bc v).setHl (dir.step t.hl)
  t.assign (ioFlags v (t.getReg .l) (t.getReg .b))

/-- After a repeating LDIR or LDDR iteration: `if BC != 0`, PC stays at pc0 and Y, X are drawn (R295). -/
def State.repeatLd (t : State) : State := if t.bc != 0 then t.drawYX else t.advance 2

/-- After a repeating CPIR or CPDR iteration: `if BC != 0 and F.Z = 0` (R299). -/
def State.repeatCp (t : State) : State := if t.bc != 0 && !t.flag .z then t.drawYX else t.advance 2

/-- After a repeating INIR, INDR, OTIR or OTDR iteration: `if B != 0`, and H, PV, Y, X are drawn (R303). -/
def State.repeatIo (t : State) : State := if t.getReg .b != 0 then t.drawHPvYX else t.advance 2

/-- `LDI` (R293). -/
def execLdi (s : State) : Result := .next ((s.ldIteration .inc).advance 2)

/-- `LDD` (R294). -/
def execLdd (s : State) : Result := .next ((s.ldIteration .dec).advance 2)

/-- `LDIR` (R295). -/
def execLdir (s : State) : Result := .next (s.ldIteration .inc).repeatLd

/-- `LDDR` (R296). -/
def execLddr (s : State) : Result := .next (s.ldIteration .dec).repeatLd

/-- `CPI` (R297). -/
def execCpi (s : State) : Result := .next ((s.cpIteration .inc).advance 2)

/-- `CPD` (R298). -/
def execCpd (s : State) : Result := .next ((s.cpIteration .dec).advance 2)

/-- `CPIR` (R299). -/
def execCpir (s : State) : Result := .next (s.cpIteration .inc).repeatCp

/-- `CPDR` (R300). -/
def execCpdr (s : State) : Result := .next (s.cpIteration .dec).repeatCp

/-- `INI` (R301). -/
def execIni (s : State) : Result := .next ((s.inIteration .inc).advance 2)

/-- `IND` (R302). -/
def execInd (s : State) : Result := .next ((s.inIteration .dec).advance 2)

/-- `INIR` (R303). -/
def execInir (s : State) : Result := .next (s.inIteration .inc).repeatIo

/-- `INDR` (R304). -/
def execIndr (s : State) : Result := .next (s.inIteration .dec).repeatIo

/-- `OUTI` (R305). -/
def execOuti (s : State) : Result := .next ((s.outIteration .inc).advance 2)

/-- `OUTD` (R306). -/
def execOutd (s : State) : Result := .next ((s.outIteration .dec).advance 2)

/-- `OTIR` (R307). -/
def execOtir (s : State) : Result := .next (s.outIteration .inc).repeatIo

/-- `OTDR` (R308). -/
def execOtdr (s : State) : Result := .next (s.outIteration .dec).repeatIo

end Sys2Proof.Machine
end

