-- ==== Sys2Proof/Machine/Exchange.lean ====
section
/-! DEFINITION. The exchanges and the stack (41_class00.md, 44_class11.md). EX AF,AF' and EXX swap contents with the other
bank; neither toggles ALT (R26). -/

namespace Sys2Proof.Machine

/-- `EX AF,AF'` (R152). -/
def execExAfAf (s : State) : Result :=
  .next (((s.setView { s.view with a := s.other.a, f := s.other.f }).setOther
    { s.other with a := s.view.a, f := s.view.f }).advance 1)

/-- `EXX` (R217). -/
def execExx (s : State) : Result :=
  .next (((s.setView { s.other with a := s.view.a, f := s.view.f }).setOther
    { s.view with a := s.other.a, f := s.other.f }).advance 1)

/-- `EX DE,HL` (R216). -/
def execExDeHl (s : State) : Result := .next (((s.setDe s.hl).setHl s.de).advance 1)

/-- `EX (SP),HL` (R215): the read before the write. -/
def execExAtSpHl (s : State) : Result := .next (((s.write16 s.sp s.hl).setHl s.top16).advance 1)

/-- `PUSH rp2` (R214). -/
def execPushRp2 (p : StackPair) (s : State) : Result := .next ((s.push16 (s.getStackPair p)).advance 1)

/-- `POP rp2` (R213). -/
def execPopRp2 (p : StackPair) (s : State) : Result := .next ((s.dropTop.setStackPair p s.top16).advance 1)

end Sys2Proof.Machine
end

