-- ==== Sys2Proof/Machine/Io.lean ====
section
/-! DEFINITION. Port I/O and the interrupt-control cells (44_class11.md, 46_ed_prefix.md). IFF1, IFF2 and IM are inert state
(R33, R405). -/

namespace Sys2Proof.Machine

/-- `OUT (n),A`: port A:n (R225). -/
def execOutAtNA (n : Byte) (s : State) : Result :=
  .next ((s.portWrite (concat (s.getReg .a) n) (s.getReg .a)).advance 2)

/-- `IN A,(n)`: port A:n, no flag (R226). -/
def execInAAtN (n : Byte) (s : State) : Result :=
  let port := concat (s.getReg .a) n
  .next (((s.portRead port).setA (s.portByte port)).advance 2)

/-- `IN r,(C)`: port BC (R271, R310). -/
def execInRAtC (r : Reg8) (s : State) : Result :=
  let v := s.portByte s.bc
  .next ((((s.portRead s.bc).setReg r v).assign (szpFlags v)).advance 2)

/-- `IN (C)`: the flags only (R272). -/
def execInAtC (s : State) : Result :=
  .next (((s.portRead s.bc).assign (szpFlags (s.portByte s.bc))).advance 2)

/-- `OUT (C),r` (R273). -/
def execOutAtCR (r : Reg8) (s : State) : Result := .next ((s.portWrite s.bc (s.getReg r)).advance 2)

/-- `OUT (C),0`: the parameter OUT_C0_VALUE (R274). -/
def execOutAtC0 (s : State) : Result := .next ((s.portWrite s.bc s.params.outC0Value).advance 2)

/-- `DI` (R227). -/
def execDi (s : State) : Result := .next (((s.setIff1 false).setIff2 false).advance 1)

/-- `EI` (R228). -/
def execEi (s : State) : Result := .next (((s.setIff1 true).setIff2 true).advance 1)

/-- `IM 0` and its alias (R282). -/
def execIm0 (_ : BitVec 1) (s : State) : Result := .next ((s.setIm .im0).advance 2)

/-- `IM 0*`: IM is a draw in 0, 1 (R283). -/
def execIm0Star (_ : BitVec 1) (s : State) : Result :=
  .next ((s.drew.setIm (if s.drawnBit then .im1 else .im0)).advance 2)

/-- `IM 1` and its alias (R284). -/
def execIm1 (_ : BitVec 1) (s : State) : Result := .next ((s.setIm .im1).advance 2)

/-- `IM 2` and its alias (R285). -/
def execIm2 (_ : BitVec 1) (s : State) : Result := .next ((s.setIm .im2).advance 2)

end Sys2Proof.Machine
end

