-- ==== Sys2Proof/Machine/Jump.lean ====
section
/-! DEFINITION. NOP, HALT and control transfer of the unprefixed table, with the returns of the ED table (41_class00.md,
42_class01_load.md, 44_class11.md, 46_ed_prefix.md). The base of R95 is the PC a meaning starts with. -/

namespace Sys2Proof.Machine

/-- `NOP` (R150). -/
def execNop (s : State) : Result := .next (s.advance 1)

/-- `HALT`: PC stays at the 0x76 byte (R191). -/
def execHalt (s : State) : Result := .next (s.setHalted true)

/-- `DJNZ e` (R175). -/
def execDjnz (e : Byte) (s : State) : Result :=
  let t := s.setReg .b (s.getReg .b - 1)
  .next (if t.getReg .b != 0 then t.jump (s.relTarget e) else t.advance 2)

/-- `JR e` (R176). -/
def execJr (e : Byte) (s : State) : Result := .next (s.jump (s.relTarget e))

/-- `JR cc,e` (R177). -/
def execJrCc (cc : Cond) (e : Byte) (s : State) : Result :=
  .next (if s.cond cc then s.jump (s.relTarget e) else s.advance 2)

/-- `RET cc` (R211). -/
def execRetCc (cc : Cond) (s : State) : Result :=
  .next (if s.cond cc then s.returnPop else s.advance 1)

/-- `RET` (R212). -/
def execRet (s : State) : Result := .next s.returnPop

/-- `JP (HL)`: no memory is read (R221). -/
def execJpAtHl (s : State) : Result := .next (s.jump s.hl)

/-- `JP cc,nn` (R220). -/
def execJpCcNn (cc : Cond) (nn : Word) (s : State) : Result :=
  .next (if s.cond cc then s.jump nn else s.advance 3)

/-- `JP nn` (R219). -/
def execJpNn (nn : Word) (s : State) : Result := .next (s.jump nn)

/-- `CALL cc,nn` (R223). -/
def execCallCcNn (cc : Cond) (nn : Word) (s : State) : Result :=
  .next (if s.cond cc then s.callTo (s.pc + 3) nn else s.advance 3)

/-- `CALL nn` (R222). -/
def execCallNn (nn : Word) (s : State) : Result := .next (s.callTo (s.pc + 3) nn)

/-- `RST p`, p = y * 8 (R224). -/
def execRst (y : BitVec 3) (s : State) : Result := .next (s.callTo (s.pc + 1) (BitVec.ofNat 16 (8 * y.toNat)))

/-- `RETN` and its aliases (R280). -/
def execRetn (_ : BitVec 3) (s : State) : Result := .next s.returnFromInterrupt

/-- `RETI` (R281). -/
def execReti (s : State) : Result := .next s.returnFromInterrupt

end Sys2Proof.Machine
end

