-- ==== Sys2Proof/Machine/Load.lean ====
section
/-! DEFINITION. The 8-bit and 16-bit loads of the unprefixed and ED tables (41_class00.md, 42_class01_load.md,
44_class11.md, 46_ed_prefix.md). None writes a flag but LD A,I and LD A,R. -/

namespace Sys2Proof.Machine

/-- `LD rp,nn` (R151). -/
def execLdRpNn (p : Pair) (nn : Word) (s : State) : Result := .next ((s.setPair p nn).advance 3)

/-- `LD (BC),A` (R154). -/
def execLdAtBcA (s : State) : Result := .next ((s.write s.bc (s.getReg .a)).advance 1)

/-- `LD (DE),A` (R155). -/
def execLdAtDeA (s : State) : Result := .next ((s.write s.de (s.getReg .a)).advance 1)

/-- `LD A,(BC)` (R156). -/
def execLdAAtBc (s : State) : Result := .next ((s.setA (s.read s.bc)).advance 1)

/-- `LD A,(DE)` (R157). -/
def execLdAAtDe (s : State) : Result := .next ((s.setA (s.read s.de)).advance 1)

/-- `LD (nn),HL` (R158). -/
def execLdAtNnHl (nn : Word) (s : State) : Result := .next ((s.write16 nn s.hl).advance 3)

/-- `LD HL,(nn)` (R159). -/
def execLdHlAtNn (nn : Word) (s : State) : Result := .next ((s.setHl (s.read16 nn)).advance 3)

/-- `LD (nn),A` (R160). -/
def execLdAtNnA (nn : Word) (s : State) : Result := .next ((s.write nn (s.getReg .a)).advance 3)

/-- `LD A,(nn)` (R161). -/
def execLdAAtNn (nn : Word) (s : State) : Result := .next ((s.setA (s.read nn)).advance 3)

/-- `LD r,n`, `LD (HL),n` (R166). -/
def execLdRN (y : Loc8) (n : Byte) (s : State) : Result := .next ((s.setLoc y n).advance 2)

/-- `LD r,r'` (R192). -/
def execLdRR (dst src : Reg8) (s : State) : Result := .next ((s.setReg dst (s.getReg src)).advance 1)

/-- `LD r,(HL)` (R193). -/
def execLdRAtHl (dst : Reg8) (s : State) : Result := .next ((s.setReg dst (s.read s.hl)).advance 1)

/-- `LD (HL),r` (R194). -/
def execLdAtHlR (src : Reg8) (s : State) : Result := .next ((s.write s.hl (s.getReg src)).advance 1)

/-- `LD SP,HL` (R218). -/
def execLdSpHl (s : State) : Result := .next ((s.setSp s.hl).advance 1)

/-- `LD (nn),rp` (R277). -/
def execLdAtNnRp (p : Pair) (nn : Word) (s : State) : Result :=
  .next ((s.write16 nn (s.getPair p)).advance 4)

/-- `LD rp,(nn)` (R278). -/
def execLdRpAtNn (p : Pair) (nn : Word) (s : State) : Result :=
  .next ((s.setPair p (s.read16 nn)).advance 4)

/-- `LD I,A` (R286). -/
def execLdIA (s : State) : Result := .next ((s.setI (s.getReg .a)).advance 2)

/-- `LD R,A`: all eight bits, after the step's bumpR(2) (R287). -/
def execLdRefreshA (s : State) : Result := .next ((s.setRefresh (s.getReg .a)).advance 2)

/-- `LD A,I` (R288). -/
def execLdAI (s : State) : Result := .next ((s.toA (s.i, ldAirFlags s.i s.iff2)).advance 2)

/-- `LD A,R`, with R after the step's bumpR(2) (R289). -/
def execLdARefresh (s : State) : Result := .next ((s.toA (s.r, ldAirFlags s.r s.iff2)).advance 2)

end Sys2Proof.Machine
end

