-- ==== Sys2Proof/Syntax.lean ====
section
/-! DEFINITION. The instructions: one constructor per row of spec/opcode_table.json (LAWS.json maps each to its
row's mnemonic), with the row's fields as operands, its immediate and displacement bytes included. A field the
spec calls an alias or ignored (NEG's y, IM's u, BIT b,(IX+d)'s z, the NOP* rows' bits) is kept, so that no bit of
an encoding is dropped. -/

namespace Sys2Proof

inductive Instr
  -- class 00 (41_class00.md)
  /-- `NOP` (R150). -/
  | nop
  /-- `LD rp,nn` (R151). -/
  | ldRpNn (p : Pair) (nn : Word)
  /-- `EX AF,AF'` (R152). -/
  | exAfAf
  /-- `ADD HL,rp` (R153). -/
  | addHlRp (p : Pair)
  /-- `LD (BC),A` (R154). -/
  | ldAtBcA
  /-- `LD (DE),A` (R155). -/
  | ldAtDeA
  /-- `LD A,(BC)` (R156). -/
  | ldAAtBc
  /-- `LD A,(DE)` (R157). -/
  | ldAAtDe
  /-- `LD (nn),HL` (R158). -/
  | ldAtNnHl (nn : Word)
  /-- `LD HL,(nn)` (R159). -/
  | ldHlAtNn (nn : Word)
  /-- `LD (nn),A` (R160). -/
  | ldAtNnA (nn : Word)
  /-- `LD A,(nn)` (R161). -/
  | ldAAtNn (nn : Word)
  /-- `INC rp` (R162). -/
  | incRp (p : Pair)
  /-- `DEC rp` (R163). -/
  | decRp (p : Pair)
  /-- `INC r`, `INC (HL)` (R164). -/
  | incR (y : Loc8)
  /-- `DEC r`, `DEC (HL)` (R165). -/
  | decR (y : Loc8)
  /-- `LD r,n`, `LD (HL),n` (R166). -/
  | ldRN (y : Loc8) (n : Byte)
  /-- `RLCA` (R167). -/
  | rlca
  /-- `RRCA` (R168). -/
  | rrca
  /-- `RLA` (R169). -/
  | rla
  /-- `RRA` (R170). -/
  | rra
  /-- `DAA` (R171). -/
  | daa
  /-- `CPL` (R172). -/
  | cpl
  /-- `SCF` (R173). -/
  | scf
  /-- `CCF` (R174). -/
  | ccf
  /-- `DJNZ e` (R175). -/
  | djnz (e : Byte)
  /-- `JR e` (R176). -/
  | jr (e : Byte)
  /-- `JR cc,e` (R177); the encodings have NZ, Z, NC and C only. -/
  | jrCc (cc : Cond) (e : Byte)
  -- class 01 (42_class01_load.md)
  /-- `HALT` (R191). -/
  | halt
  /-- `LD r,r'` (R192). -/
  | ldRR (dst src : Reg8)
  /-- `LD r,(HL)` (R193). -/
  | ldRAtHl (dst : Reg8)
  /-- `LD (HL),r` (R194). -/
  | ldAtHlR (src : Reg8)
  -- class 10 (43_class10_alu.md)
  /-- `ADD A,r`, `ADD A,(HL)` (R196). -/
  | addAR (z : Loc8)
  /-- `ADC A,r`, `ADC A,(HL)` (R197). -/
  | adcAR (z : Loc8)
  /-- `SUB r`, `SUB (HL)` (R198). -/
  | subR (z : Loc8)
  /-- `SBC A,r`, `SBC A,(HL)` (R199). -/
  | sbcAR (z : Loc8)
  /-- `AND r`, `AND (HL)` (R200). -/
  | andR (z : Loc8)
  /-- `XOR r`, `XOR (HL)` (R201). -/
  | xorR (z : Loc8)
  /-- `OR r`, `OR (HL)` (R202). -/
  | orR (z : Loc8)
  /-- `CP r`, `CP (HL)` (R203). -/
  | cpR (z : Loc8)
  -- class 11 (44_class11.md)
  /-- `RET cc` (R211). -/
  | retCc (cc : Cond)
  /-- `POP rp2` (R213). -/
  | popRp2 (p : StackPair)
  /-- `RET` (R212). -/
  | ret
  /-- `EXX` (R217). -/
  | exx
  /-- `JP (HL)` (R221). -/
  | jpAtHl
  /-- `LD SP,HL` (R218). -/
  | ldSpHl
  /-- `JP cc,nn` (R220). -/
  | jpCcNn (cc : Cond) (nn : Word)
  /-- `JP nn` (R219). -/
  | jpNn (nn : Word)
  /-- `OUT (n),A` (R225). -/
  | outAtNA (n : Byte)
  /-- `IN A,(n)` (R226). -/
  | inAAtN (n : Byte)
  /-- `EX (SP),HL` (R215). -/
  | exAtSpHl
  /-- `EX DE,HL` (R216). -/
  | exDeHl
  /-- `DI` (R227). -/
  | di
  /-- `EI` (R228). -/
  | ei
  /-- `CALL cc,nn` (R223). -/
  | callCcNn (cc : Cond) (nn : Word)
  /-- `PUSH rp2` (R214). -/
  | pushRp2 (p : StackPair)
  /-- `CALL nn` (R222). -/
  | callNn (nn : Word)
  /-- `ADD A,n` (R229). -/
  | addAN (n : Byte)
  /-- `ADC A,n` (R230). -/
  | adcAN (n : Byte)
  /-- `SUB n` (R231). -/
  | subN (n : Byte)
  /-- `SBC A,n` (R232). -/
  | sbcAN (n : Byte)
  /-- `AND n` (R233). -/
  | andN (n : Byte)
  /-- `XOR n` (R234). -/
  | xorN (n : Byte)
  /-- `OR n` (R235). -/
  | orN (n : Byte)
  /-- `CP n` (R236). -/
  | cpN (n : Byte)
  /-- `RST p`, with p = y * 8 (R224). -/
  | rst (y : BitVec 3)
  -- CB prefix (45_cb_prefix.md)
  /-- `RLC r`, `RLC (HL)` (R251). -/
  | rlcR (z : Loc8)
  /-- `RRC r`, `RRC (HL)` (R252). -/
  | rrcR (z : Loc8)
  /-- `RL r`, `RL (HL)` (R253). -/
  | rlR (z : Loc8)
  /-- `RR r`, `RR (HL)` (R254). -/
  | rrR (z : Loc8)
  /-- `SLA r`, `SLA (HL)` (R255). -/
  | slaR (z : Loc8)
  /-- `SRA r`, `SRA (HL)` (R256). -/
  | sraR (z : Loc8)
  /-- `SLL r`, `SLL (HL)` (R257). -/
  | sllR (z : Loc8)
  /-- `SRL r`, `SRL (HL)` (R258). -/
  | srlR (z : Loc8)
  /-- `BIT b,r` (R259). -/
  | bitR (b : BitVec 3) (r : Reg8)
  /-- `BIT b,(HL)` (R260). -/
  | bitAtHl (b : BitVec 3)
  /-- `RES b,r`, `RES b,(HL)` (R261). -/
  | resR (b : BitVec 3) (z : Loc8)
  /-- `SET b,r`, `SET b,(HL)` (R262). -/
  | setR (b : BitVec 3) (z : Loc8)
  -- ED prefix (46_ed_prefix.md)
  /-- `IN r,(C)` (R271). -/
  | inRAtC (r : Reg8)
  /-- `IN (C)` (R272). -/
  | inAtC
  /-- `OUT (C),r` (R273). -/
  | outAtCR (r : Reg8)
  /-- `OUT (C),0` (R274). -/
  | outAtC0
  /-- `SBC HL,rp` (R275). -/
  | sbcHlRp (p : Pair)
  /-- `ADC HL,rp` (R276). -/
  | adcHlRp (p : Pair)
  /-- `LD (nn),rp` (R277). -/
  | ldAtNnRp (p : Pair) (nn : Word)
  /-- `LD rp,(nn)` (R278). -/
  | ldRpAtNn (p : Pair) (nn : Word)
  /-- `NEG` and its aliases (R279). -/
  | neg (y : BitVec 3)
  /-- `RETN` and its aliases, y not 1 (R280). -/
  | retn (y : BitVec 3)
  /-- `RETI` (R281). -/
  | reti
  /-- `IM 0` and its alias (R282). -/
  | im0 (u : BitVec 1)
  /-- `IM 0*`, the undefined encodings ED 4E and ED 6E (R283). -/
  | im0Star (u : BitVec 1)
  /-- `IM 1` and its alias (R284). -/
  | im1 (u : BitVec 1)
  /-- `IM 2` and its alias (R285). -/
  | im2 (u : BitVec 1)
  /-- `LD I,A` (R286). -/
  | ldIA
  /-- `LD R,A`, R the refresh register (R287). -/
  | ldRefreshA
  /-- `LD A,I` (R288). -/
  | ldAI
  /-- `LD A,R`, R the refresh register (R289). -/
  | ldARefresh
  /-- `RRD` (R290). -/
  | rrd
  /-- `RLD` (R291). -/
  | rld
  /-- `LDI` (R293). -/
  | ldi
  /-- `CPI` (R297). -/
  | cpi
  /-- `INI` (R301). -/
  | ini
  /-- `OUTI` (R305). -/
  | outi
  /-- `LDD` (R294). -/
  | ldd
  /-- `CPD` (R298). -/
  | cpd
  /-- `IND` (R302). -/
  | ind
  /-- `OUTD` (R306). -/
  | outd
  /-- `LDIR` (R295). -/
  | ldir
  /-- `CPIR` (R299). -/
  | cpir
  /-- `INIR` (R303). -/
  | inir
  /-- `OTIR` (R307). -/
  | otir
  /-- `LDDR` (R296). -/
  | lddr
  /-- `CPDR` (R300). -/
  | cpdr
  /-- `INDR` (R304). -/
  | indr
  /-- `OTDR` (R308). -/
  | otdr
  /-- `NOP*`, ED 00 to ED 3F (R309). -/
  | nopEd00 (u : BitVec 6)
  /-- `NOP*`, ED 77 and ED 7F (R309). -/
  | nopEd77 (u : BitVec 1)
  /-- `NOP*`, ED 80 to ED 9F (R309). -/
  | nopEd80 (u : BitVec 5)
  /-- `NOP*`, ED A4-A7, AC-AF, B4-B7 and BC-BF: op = 101vv1ww (R309). -/
  | nopEdA4 (v w : BitVec 2)
  /-- `NOP*`, ED C0 to ED FF (R309). -/
  | nopEdC0 (u : BitVec 6)
  -- DD and FD prefixes (47_index_prefix.md)
  /-- `ADD IX,rp` (R321). -/
  | addIxRp (x : Idx) (p : IndexPair)
  /-- `LD IX,nn` (R322). -/
  | ldIxNn (x : Idx) (nn : Word)
  /-- `LD (nn),IX` (R323). -/
  | ldAtNnIx (x : Idx) (nn : Word)
  /-- `LD IX,(nn)` (R324). -/
  | ldIxAtNn (x : Idx) (nn : Word)
  /-- `INC IX` (R325). -/
  | incIx (x : Idx)
  /-- `DEC IX` (R326). -/
  | decIx (x : Idx)
  /-- `INC IXH`, `INC IXL` (R327). -/
  | incIxp (x : Idx) (w : Half)
  /-- `DEC IXH`, `DEC IXL` (R328). -/
  | decIxp (x : Idx) (w : Half)
  /-- `LD IXH,n`, `LD IXL,n` (R329). -/
  | ldIxpN (x : Idx) (w : Half) (n : Byte)
  /-- `INC (IX+d)` (R330). -/
  | incAtIxd (x : Idx) (d : Byte)
  /-- `DEC (IX+d)` (R331). -/
  | decAtIxd (x : Idx) (d : Byte)
  /-- `LD (IX+d),n` (R332). -/
  | ldAtIxdN (x : Idx) (d n : Byte)
  /-- `LD r,(IX+d)` (R333). -/
  | ldRAtIxd (x : Idx) (r : Reg8) (d : Byte)
  /-- `LD (IX+d),r` (R334). -/
  | ldAtIxdR (x : Idx) (r : Reg8) (d : Byte)
  /-- `LD r,IXp`, r one of B, C, D, E, A (R335). -/
  | ldRIxp (x : Idx) (r : Reg8) (w : Half)
  /-- `LD IXp,r`, r one of B, C, D, E, A (R336). -/
  | ldIxpR (x : Idx) (w : Half) (r : Reg8)
  /-- `LD IXp,IXq` (R337). -/
  | ldIxpIxq (x : Idx) (w v : Half)
  /-- `ADD A,IXp` (R338). -/
  | addAIxp (x : Idx) (w : Half)
  /-- `ADC A,IXp` (R339). -/
  | adcAIxp (x : Idx) (w : Half)
  /-- `SUB IXp` (R340). -/
  | subIxp (x : Idx) (w : Half)
  /-- `SBC A,IXp` (R341). -/
  | sbcAIxp (x : Idx) (w : Half)
  /-- `AND IXp` (R342). -/
  | andIxp (x : Idx) (w : Half)
  /-- `XOR IXp` (R343). -/
  | xorIxp (x : Idx) (w : Half)
  /-- `OR IXp` (R344). -/
  | orIxp (x : Idx) (w : Half)
  /-- `CP IXp` (R345). -/
  | cpIxp (x : Idx) (w : Half)
  /-- `ADD A,(IX+d)` (R346). -/
  | addAAtIxd (x : Idx) (d : Byte)
  /-- `ADC A,(IX+d)` (R347). -/
  | adcAAtIxd (x : Idx) (d : Byte)
  /-- `SUB (IX+d)` (R348). -/
  | subAtIxd (x : Idx) (d : Byte)
  /-- `SBC A,(IX+d)` (R349). -/
  | sbcAAtIxd (x : Idx) (d : Byte)
  /-- `AND (IX+d)` (R350). -/
  | andAtIxd (x : Idx) (d : Byte)
  /-- `XOR (IX+d)` (R351). -/
  | xorAtIxd (x : Idx) (d : Byte)
  /-- `OR (IX+d)` (R352). -/
  | orAtIxd (x : Idx) (d : Byte)
  /-- `CP (IX+d)` (R353). -/
  | cpAtIxd (x : Idx) (d : Byte)
  /-- `POP IX` (R354). -/
  | popIx (x : Idx)
  /-- `PUSH IX` (R355). -/
  | pushIx (x : Idx)
  /-- `EX (SP),IX` (R356). -/
  | exAtSpIx (x : Idx)
  /-- `JP (IX)` (R357). -/
  | jpAtIx (x : Idx)
  /-- `LD SP,IX` (R358). -/
  | ldSpIx (x : Idx)
  /-- `XY prefix no-op`, the next byte being DD (`u` = ix) or FD (`u` = iy), which is only looked at (R360). -/
  | xyThenXy (x u : Idx)
  /-- `XY prefix no-op`, the next byte being ED, which is only looked at (R360). -/
  | xyThenEd (x : Idx)
  /-- `XY fall-through` (R359): `inner` is the unprefixed instruction at pc0 + 1. -/
  | xyFallThrough (x : Idx) (inner : Instr)
  -- DDCB and FDCB (47_index_prefix.md); `copy` is the register of the copy form, none for z = 110
  /-- `RLC (IX+d)`, `RLC (IX+d),r` (R381). -/
  | rlcAtIxd (x : Idx) (d : Byte) (copy : Option Reg8)
  /-- `RRC (IX+d)`, `RRC (IX+d),r` (R382). -/
  | rrcAtIxd (x : Idx) (d : Byte) (copy : Option Reg8)
  /-- `RL (IX+d)`, `RL (IX+d),r` (R383). -/
  | rlAtIxd (x : Idx) (d : Byte) (copy : Option Reg8)
  /-- `RR (IX+d)`, `RR (IX+d),r` (R384). -/
  | rrAtIxd (x : Idx) (d : Byte) (copy : Option Reg8)
  /-- `SLA (IX+d)`, `SLA (IX+d),r` (R385). -/
  | slaAtIxd (x : Idx) (d : Byte) (copy : Option Reg8)
  /-- `SRA (IX+d)`, `SRA (IX+d),r` (R386). -/
  | sraAtIxd (x : Idx) (d : Byte) (copy : Option Reg8)
  /-- `SLL (IX+d)`, `SLL (IX+d),r` (R387). -/
  | sllAtIxd (x : Idx) (d : Byte) (copy : Option Reg8)
  /-- `SRL (IX+d)`, `SRL (IX+d),r` (R388). -/
  | srlAtIxd (x : Idx) (d : Byte) (copy : Option Reg8)
  /-- `BIT b,(IX+d)`; every z is an alias (R389). -/
  | bitAtIxd (x : Idx) (d : Byte) (b z : BitVec 3)
  /-- `RES b,(IX+d)`, `RES b,(IX+d),r` (R390). -/
  | resAtIxd (x : Idx) (d : Byte) (b : BitVec 3) (copy : Option Reg8)
  /-- `SET b,(IX+d)`, `SET b,(IX+d),r` (R391). -/
  | setAtIxd (x : Idx) (d : Byte) (b : BitVec 3) (copy : Option Reg8)
  deriving DecidableEq, Repr

end Sys2Proof
end

