-- ==== Sys2Proof/Machine/FallThrough.lean ====
section
/-! DEFINITION. `exec_main(op, base)` (R83): the unprefixed instruction at the PC, and the prefix fall-through that
runs it at pc0 + 1 (R98, R359). -/

namespace Sys2Proof.Machine

/-- The unprefixed rule of each row of the main table, its base being the state's PC (R83). Any other term is no
unprefixed instruction and is refused. -/
def execMain (i : Instr) (s : State) : Result :=
  match i with
  | .nop => execNop s
  | .ldRpNn p nn => execLdRpNn p nn s
  | .exAfAf => execExAfAf s
  | .addHlRp p => execAddHlRp p s
  | .ldAtBcA => execLdAtBcA s
  | .ldAtDeA => execLdAtDeA s
  | .ldAAtBc => execLdAAtBc s
  | .ldAAtDe => execLdAAtDe s
  | .ldAtNnHl nn => execLdAtNnHl nn s
  | .ldHlAtNn nn => execLdHlAtNn nn s
  | .ldAtNnA nn => execLdAtNnA nn s
  | .ldAAtNn nn => execLdAAtNn nn s
  | .incRp p => execIncRp p s
  | .decRp p => execDecRp p s
  | .incR y => execIncR y s
  | .decR y => execDecR y s
  | .ldRN y n => execLdRN y n s
  | .rlca => execRlca s
  | .rrca => execRrca s
  | .rla => execRla s
  | .rra => execRra s
  | .daa => execDaa s
  | .cpl => execCpl s
  | .scf => execScf s
  | .ccf => execCcf s
  | .djnz e => execDjnz e s
  | .jr e => execJr e s
  | .jrCc cc e => execJrCc cc e s
  | .halt => execHalt s
  | .ldRR dst src => execLdRR dst src s
  | .ldRAtHl dst => execLdRAtHl dst s
  | .ldAtHlR src => execLdAtHlR src s
  | .addAR z => execAddAR z s
  | .adcAR z => execAdcAR z s
  | .subR z => execSubR z s
  | .sbcAR z => execSbcAR z s
  | .andR z => execAndR z s
  | .xorR z => execXorR z s
  | .orR z => execOrR z s
  | .cpR z => execCpR z s
  | .retCc cc => execRetCc cc s
  | .popRp2 p => execPopRp2 p s
  | .ret => execRet s
  | .exx => execExx s
  | .jpAtHl => execJpAtHl s
  | .ldSpHl => execLdSpHl s
  | .jpCcNn cc nn => execJpCcNn cc nn s
  | .jpNn nn => execJpNn nn s
  | .outAtNA n => execOutAtNA n s
  | .inAAtN n => execInAAtN n s
  | .exAtSpHl => execExAtSpHl s
  | .exDeHl => execExDeHl s
  | .di => execDi s
  | .ei => execEi s
  | .callCcNn cc nn => execCallCcNn cc nn s
  | .pushRp2 p => execPushRp2 p s
  | .callNn nn => execCallNn nn s
  | .addAN n => execAddAN n s
  | .adcAN n => execAdcAN n s
  | .subN n => execSubN n s
  | .sbcAN n => execSbcAN n s
  | .andN n => execAndN n s
  | .xorN n => execXorN n s
  | .orN n => execOrN n s
  | .cpN n => execCpN n s
  | .rst y => execRst y s
  | _ => .refused .illFormed

/-- `XY fall-through`: `exec_main(op, pc0 + 1)`, with H, L, HL and (HL) unchanged. The base moves past the prefix, so a
return address and a relative target count from there, and a HALT stays at the 0x76 byte (R98, R359, R399). -/
def execXyFallThrough (_ : Idx) (inner : Instr) (s : State) : Result := execMain inner (s.advance 1)

end Sys2Proof.Machine
end

