-- ==== Sys2Proof/Machine/Index.lean ====
section
/-! DEFINITION. The DD and FD table (47_index_prefix.md), without the DDCB forms and the fall-through. -/

namespace Sys2Proof.Machine

/-! ## 16-bit index operations -/

/-- `ADD IX,rp` (R321). -/
def execAddIxRp (x : Idx) (p : IndexPair) (s : State) : Result :=
  let r := add16 (s.getIdx x) (s.getIndexPair x p)
  .next (((s.setIdx x r.1).assign r.2).advance 2)

/-- `LD IX,nn` (R322). -/
def execLdIxNn (x : Idx) (nn : Word) (s : State) : Result := .next ((s.setIdx x nn).advance 4)

/-- `LD (nn),IX` (R323). -/
def execLdAtNnIx (x : Idx) (nn : Word) (s : State) : Result := .next ((s.write16 nn (s.getIdx x)).advance 4)

/-- `LD IX,(nn)` (R324). -/
def execLdIxAtNn (x : Idx) (nn : Word) (s : State) : Result := .next ((s.setIdx x (s.read16 nn)).advance 4)

/-- `INC IX` (R325). -/
def execIncIx (x : Idx) (s : State) : Result := .next ((s.setIdx x (s.getIdx x + 1)).advance 2)

/-- `DEC IX` (R326). -/
def execDecIx (x : Idx) (s : State) : Result := .next ((s.setIdx x (s.getIdx x - 1)).advance 2)

/-! ## Operations on the index halves -/

/-- `INC IXH`, `INC IXL` (R327). -/
def execIncIxp (x : Idx) (w : Half) (s : State) : Result := .next ((s.modifyHalf x w inc8).advance 2)

/-- `DEC IXH`, `DEC IXL` (R328). -/
def execDecIxp (x : Idx) (w : Half) (s : State) : Result := .next ((s.modifyHalf x w dec8).advance 2)

/-- `LD IXH,n`, `LD IXL,n` (R329). -/
def execLdIxpN (x : Idx) (w : Half) (n : Byte) (s : State) : Result := .next ((s.setHalf x w n).advance 3)

/-- `LD r,IXp` (R335). -/
def execLdRIxp (x : Idx) (r : Reg8) (w : Half) (s : State) : Result :=
  .next ((s.setReg r (s.getHalf x w)).advance 2)

/-- `LD IXp,r` (R336). -/
def execLdIxpR (x : Idx) (w : Half) (r : Reg8) (s : State) : Result :=
  .next ((s.setHalf x w (s.getReg r)).advance 2)

/-- `LD IXp,IXq` (R337). -/
def execLdIxpIxq (x : Idx) (w v : Half) (s : State) : Result :=
  .next ((s.setHalf x w (s.getHalf x v)).advance 2)

/-! ## Indexed memory operations; the address is computed once (R320) -/

/-- `INC (IX+d)` (R330). -/
def execIncAtIxd (x : Idx) (d : Byte) (s : State) : Result := .next ((s.modifyAt (s.idxAddr x d) inc8).advance 3)

/-- `DEC (IX+d)` (R331). -/
def execDecAtIxd (x : Idx) (d : Byte) (s : State) : Result := .next ((s.modifyAt (s.idxAddr x d) dec8).advance 3)

/-- `LD (IX+d),n` (R332). -/
def execLdAtIxdN (x : Idx) (d n : Byte) (s : State) : Result := .next ((s.write (s.idxAddr x d) n).advance 4)

/-- `LD r,(IX+d)`: H and L are the real ones (R333). -/
def execLdRAtIxd (x : Idx) (r : Reg8) (d : Byte) (s : State) : Result :=
  .next ((s.setReg r (s.read (s.idxAddr x d))).advance 3)

/-- `LD (IX+d),r` (R334). -/
def execLdAtIxdR (x : Idx) (r : Reg8) (d : Byte) (s : State) : Result :=
  .next ((s.write (s.idxAddr x d) (s.getReg r)).advance 3)

/-! ## alu[y] with an index half (R361) -/

/-- `ADD A,IXp` (R338). -/
def execAddAIxp (x : Idx) (w : Half) (s : State) : Result := .next ((s.addA (s.getHalf x w)).advance 2)

/-- `ADC A,IXp` (R339). -/
def execAdcAIxp (x : Idx) (w : Half) (s : State) : Result := .next ((s.adcA (s.getHalf x w)).advance 2)

/-- `SUB IXp` (R340). -/
def execSubIxp (x : Idx) (w : Half) (s : State) : Result := .next ((s.subA (s.getHalf x w)).advance 2)

/-- `SBC A,IXp` (R341). -/
def execSbcAIxp (x : Idx) (w : Half) (s : State) : Result := .next ((s.sbcA (s.getHalf x w)).advance 2)

/-- `AND IXp` (R342). -/
def execAndIxp (x : Idx) (w : Half) (s : State) : Result := .next ((s.andA (s.getHalf x w)).advance 2)

/-- `XOR IXp` (R343). -/
def execXorIxp (x : Idx) (w : Half) (s : State) : Result := .next ((s.xorA (s.getHalf x w)).advance 2)

/-- `OR IXp` (R344). -/
def execOrIxp (x : Idx) (w : Half) (s : State) : Result := .next ((s.orA (s.getHalf x w)).advance 2)

/-- `CP IXp` (R345). -/
def execCpIxp (x : Idx) (w : Half) (s : State) : Result := .next ((s.cpA (s.getHalf x w)).advance 2)

/-! ## alu[y] with (IX+d) (R362) -/

/-- `ADD A,(IX+d)` (R346). -/
def execAddAAtIxd (x : Idx) (d : Byte) (s : State) : Result :=
  .next ((s.addA (s.read (s.idxAddr x d))).advance 3)

/-- `ADC A,(IX+d)` (R347). -/
def execAdcAAtIxd (x : Idx) (d : Byte) (s : State) : Result :=
  .next ((s.adcA (s.read (s.idxAddr x d))).advance 3)

/-- `SUB (IX+d)` (R348). -/
def execSubAtIxd (x : Idx) (d : Byte) (s : State) : Result :=
  .next ((s.subA (s.read (s.idxAddr x d))).advance 3)

/-- `SBC A,(IX+d)` (R349). -/
def execSbcAAtIxd (x : Idx) (d : Byte) (s : State) : Result :=
  .next ((s.sbcA (s.read (s.idxAddr x d))).advance 3)

/-- `AND (IX+d)` (R350). -/
def execAndAtIxd (x : Idx) (d : Byte) (s : State) : Result :=
  .next ((s.andA (s.read (s.idxAddr x d))).advance 3)

/-- `XOR (IX+d)` (R351). -/
def execXorAtIxd (x : Idx) (d : Byte) (s : State) : Result :=
  .next ((s.xorA (s.read (s.idxAddr x d))).advance 3)

/-- `OR (IX+d)` (R352). -/
def execOrAtIxd (x : Idx) (d : Byte) (s : State) : Result :=
  .next ((s.orA (s.read (s.idxAddr x d))).advance 3)

/-- `CP (IX+d)` (R353). -/
def execCpAtIxd (x : Idx) (d : Byte) (s : State) : Result :=
  .next ((s.cpA (s.read (s.idxAddr x d))).advance 3)

/-! ## Stack, exchange and jump -/

/-- `POP IX` (R354). -/
def execPopIx (x : Idx) (s : State) : Result := .next ((s.dropTop.setIdx x s.top16).advance 2)

/-- `PUSH IX` (R355). -/
def execPushIx (x : Idx) (s : State) : Result := .next ((s.push16 (s.getIdx x)).advance 2)

/-- `EX (SP),IX` (R356). -/
def execExAtSpIx (x : Idx) (s : State) : Result :=
  .next (((s.write16 s.sp (s.getIdx x)).setIdx x s.top16).advance 2)

/-- `JP (IX)`: no displacement, no memory read (R357). -/
def execJpAtIx (x : Idx) (s : State) : Result := .next (s.jump (s.getIdx x))

/-- `LD SP,IX` (R358). -/
def execLdSpIx (x : Idx) (s : State) : Result := .next ((s.setSp (s.getIdx x)).advance 2)

end Sys2Proof.Machine
end

