-- ==== Sys2Proof/Machine/IndexBit.lean ====
section
/-! DEFINITION. The DDCB and FDCB table (47_index_prefix.md, R380 to R391). -/

namespace Sys2Proof.Machine

/-- `RLC (IX+d)`, `RLC (IX+d),r` (R381). -/
def execRlcAtIxd (x : Idx) (d : Byte) (copy : Option Reg8) (s : State) : Result :=
  .next ((s.rotAt rlc (s.idxAddr x d) copy).advance 4)

/-- `RRC (IX+d)`, `RRC (IX+d),r` (R382). -/
def execRrcAtIxd (x : Idx) (d : Byte) (copy : Option Reg8) (s : State) : Result :=
  .next ((s.rotAt rrc (s.idxAddr x d) copy).advance 4)

/-- `RL (IX+d)`, `RL (IX+d),r` (R383). -/
def execRlAtIxd (x : Idx) (d : Byte) (copy : Option Reg8) (s : State) : Result :=
  .next ((s.rotAt rl (s.idxAddr x d) copy).advance 4)

/-- `RR (IX+d)`, `RR (IX+d),r` (R384). -/
def execRrAtIxd (x : Idx) (d : Byte) (copy : Option Reg8) (s : State) : Result :=
  .next ((s.rotAt rr (s.idxAddr x d) copy).advance 4)

/-- `SLA (IX+d)`, `SLA (IX+d),r` (R385). -/
def execSlaAtIxd (x : Idx) (d : Byte) (copy : Option Reg8) (s : State) : Result :=
  .next ((s.rotAt sla (s.idxAddr x d) copy).advance 4)

/-- `SRA (IX+d)`, `SRA (IX+d),r` (R386). -/
def execSraAtIxd (x : Idx) (d : Byte) (copy : Option Reg8) (s : State) : Result :=
  .next ((s.rotAt sra (s.idxAddr x d) copy).advance 4)

/-- `SLL (IX+d)`, `SLL (IX+d),r` (R387). -/
def execSllAtIxd (x : Idx) (d : Byte) (copy : Option Reg8) (s : State) : Result :=
  .next ((s.rotAt sll (s.idxAddr x d) copy).advance 4)

/-- `SRL (IX+d)`, `SRL (IX+d),r` (R388). -/
def execSrlAtIxd (x : Idx) (d : Byte) (copy : Option Reg8) (s : State) : Result :=
  .next ((s.rotAt srl (s.idxAddr x d) copy).advance 4)

/-- `BIT b,(IX+d)`, every z: Y and X from the high byte of the address (R389). -/
def execBitAtIxd (x : Idx) (d : Byte) (b _z : BitVec 3) (s : State) : Result :=
  let addr := s.idxAddr x d
  .next ((s.assign (bitFlags b (s.read addr) (hi8 addr))).advance 4)

/-- `RES b,(IX+d)`, `RES b,(IX+d),r` (R390): no flag. -/
def execResAtIxd (x : Idx) (d : Byte) (b : BitVec 3) (copy : Option Reg8) (s : State) : Result :=
  let addr := s.idxAddr x d
  .next ((s.storeCopy addr (s.read addr &&& ~~~(bitMask b)) copy).advance 4)

/-- `SET b,(IX+d)`, `SET b,(IX+d),r` (R391): no flag. -/
def execSetAtIxd (x : Idx) (d : Byte) (b : BitVec 3) (copy : Option Reg8) (s : State) : Result :=
  let addr := s.idxAddr x d
  .next ((s.storeCopy addr (s.read addr ||| bitMask b) copy).advance 4)

end Sys2Proof.Machine
end

