-- ==== Sys2Proof/Machine/Undefined.lean ====
section
/-! DEFINITION. The undefined ED opcodes and the prefix no-op (46_ed_prefix.md R309, 47_index_prefix.md R360). -/

namespace Sys2Proof.Machine

/-- Nothing but the PC update: two bytes for an undefined ED opcode (R309, C6). -/
def State.skip (s : State) (length : Word) : Result := .next (s.advance length)

/-- `NOP*`, ED 00 to ED 3F (R309). -/
def execNopEd00 (_ : BitVec 6) (s : State) : Result := s.skip 2

/-- `NOP*`, ED 77 and ED 7F (R309). -/
def execNopEd77 (_ : BitVec 1) (s : State) : Result := s.skip 2

/-- `NOP*`, ED 80 to ED 9F (R309). -/
def execNopEd80 (_ : BitVec 5) (s : State) : Result := s.skip 2

/-- `NOP*`, ED A4-A7, AC-AF, B4-B7, BC-BF (R309). -/
def execNopEdA4 (_ _ : BitVec 2) (s : State) : Result := s.skip 2

/-- `NOP*`, ED C0 to ED FF (R309). -/
def execNopEdC0 (_ : BitVec 6) (s : State) : Result := s.skip 2

/-- `XY prefix no-op` before DD or FD: one byte (R360, R99). -/
def execXyThenXy (_ _ : Idx) (s : State) : Result := s.skip 1

/-- `XY prefix no-op` before ED: one byte (R360, R99). -/
def execXyThenEd (_ : Idx) (s : State) : Result := s.skip 1

end Sys2Proof.Machine
end

