-- ==== Sys2Proof/Machine/Dispatch.lean ====
section
/-! DEFINITION. One arm per constructor of Instr, each one direct call of its meaning. The step has applied bumpR
before (R83); a meaning takes the state with PC at the instruction's first byte. -/

namespace Sys2Proof.Machine

def exec (i : Instr) (s : State) : Host.Outcome State Fault Refusal :=
  match i with
  | .nop => Sys2Proof.Machine.execNop s
  | .ldRpNn p nn => Sys2Proof.Machine.execLdRpNn p nn s
  | .exAfAf => Sys2Proof.Machine.execExAfAf s
  | .addHlRp p => Sys2Proof.Machine.execAddHlRp p s
  | .ldAtBcA => Sys2Proof.Machine.execLdAtBcA s
  | .ldAtDeA => Sys2Proof.Machine.execLdAtDeA s
  | .ldAAtBc => Sys2Proof.Machine.execLdAAtBc s
  | .ldAAtDe => Sys2Proof.Machine.execLdAAtDe s
  | .ldAtNnHl nn => Sys2Proof.Machine.execLdAtNnHl nn s
  | .ldHlAtNn nn => Sys2Proof.Machine.execLdHlAtNn nn s
  | .ldAtNnA nn => Sys2Proof.Machine.execLdAtNnA nn s
  | .ldAAtNn nn => Sys2Proof.Machine.execLdAAtNn nn s
  | .incRp p => Sys2Proof.Machine.execIncRp p s
  | .decRp p => Sys2Proof.Machine.execDecRp p s
  | .incR y => Sys2Proof.Machine.execIncR y s
  | .decR y => Sys2Proof.Machine.execDecR y s
  | .ldRN y n => Sys2Proof.Machine.execLdRN y n s
  | .rlca => Sys2Proof.Machine.execRlca s
  | .rrca => Sys2Proof.Machine.execRrca s
  | .rla => Sys2Proof.Machine.execRla s
  | .rra => Sys2Proof.Machine.execRra s
  | .daa => Sys2Proof.Machine.execDaa s
  | .cpl => Sys2Proof.Machine.execCpl s
  | .scf => Sys2Proof.Machine.execScf s
  | .ccf => Sys2Proof.Machine.execCcf s
  | .djnz e => Sys2Proof.Machine.execDjnz e s
  | .jr e => Sys2Proof.Machine.execJr e s
  | .jrCc cc e => Sys2Proof.Machine.execJrCc cc e s
  | .halt => Sys2Proof.Machine.execHalt s
  | .ldRR dst src => Sys2Proof.Machine.execLdRR dst src s
  | .ldRAtHl dst => Sys2Proof.Machine.execLdRAtHl dst s
  | .ldAtHlR src => Sys2Proof.Machine.execLdAtHlR src s
  | .addAR z => Sys2Proof.Machine.execAddAR z s
  | .adcAR z => Sys2Proof.Machine.execAdcAR z s
  | .subR z => Sys2Proof.Machine.execSubR z s
  | .sbcAR z => Sys2Proof.Machine.execSbcAR z s
  | .andR z => Sys2Proof.Machine.execAndR z s
  | .xorR z => Sys2Proof.Machine.execXorR z s
  | .orR z => Sys2Proof.Machine.execOrR z s
  | .cpR z => Sys2Proof.Machine.execCpR z s
  | .retCc cc => Sys2Proof.Machine.execRetCc cc s
  | .popRp2 p => Sys2Proof.Machine.execPopRp2 p s
  | .ret => Sys2Proof.Machine.execRet s
  | .exx => Sys2Proof.Machine.execExx s
  | .jpAtHl => Sys2Proof.Machine.execJpAtHl s
  | .ldSpHl => Sys2Proof.Machine.execLdSpHl s
  | .jpCcNn cc nn => Sys2Proof.Machine.execJpCcNn cc nn s
  | .jpNn nn => Sys2Proof.Machine.execJpNn nn s
  | .outAtNA n => Sys2Proof.Machine.execOutAtNA n s
  | .inAAtN n => Sys2Proof.Machine.execInAAtN n s
  | .exAtSpHl => Sys2Proof.Machine.execExAtSpHl s
  | .exDeHl => Sys2Proof.Machine.execExDeHl s
  | .di => Sys2Proof.Machine.execDi s
  | .ei => Sys2Proof.Machine.execEi s
  | .callCcNn cc nn => Sys2Proof.Machine.execCallCcNn cc nn s
  | .pushRp2 p => Sys2Proof.Machine.execPushRp2 p s
  | .callNn nn => Sys2Proof.Machine.execCallNn nn s
  | .addAN n => Sys2Proof.Machine.execAddAN n s
  | .adcAN n => Sys2Proof.Machine.execAdcAN n s
  | .subN n => Sys2Proof.Machine.execSubN n s
  | .sbcAN n => Sys2Proof.Machine.execSbcAN n s
  | .andN n => Sys2Proof.Machine.execAndN n s
  | .xorN n => Sys2Proof.Machine.execXorN n s
  | .orN n => Sys2Proof.Machine.execOrN n s
  | .cpN n => Sys2Proof.Machine.execCpN n s
  | .rst y => Sys2Proof.Machine.execRst y s
  | .rlcR z => Sys2Proof.Machine.execRlcR z s
  | .rrcR z => Sys2Proof.Machine.execRrcR z s
  | .rlR z => Sys2Proof.Machine.execRlR z s
  | .rrR z => Sys2Proof.Machine.execRrR z s
  | .slaR z => Sys2Proof.Machine.execSlaR z s
  | .sraR z => Sys2Proof.Machine.execSraR z s
  | .sllR z => Sys2Proof.Machine.execSllR z s
  | .srlR z => Sys2Proof.Machine.execSrlR z s
  | .bitR b r => Sys2Proof.Machine.execBitR b r s
  | .bitAtHl b => Sys2Proof.Machine.execBitAtHl b s
  | .resR b z => Sys2Proof.Machine.execResR b z s
  | .setR b z => Sys2Proof.Machine.execSetR b z s
  | .inRAtC r => Sys2Proof.Machine.execInRAtC r s
  | .inAtC => Sys2Proof.Machine.execInAtC s
  | .outAtCR r => Sys2Proof.Machine.execOutAtCR r s
  | .outAtC0 => Sys2Proof.Machine.execOutAtC0 s
  | .sbcHlRp p => Sys2Proof.Machine.execSbcHlRp p s
  | .adcHlRp p => Sys2Proof.Machine.execAdcHlRp p s
  | .ldAtNnRp p nn => Sys2Proof.Machine.execLdAtNnRp p nn s
  | .ldRpAtNn p nn => Sys2Proof.Machine.execLdRpAtNn p nn s
  | .neg y => Sys2Proof.Machine.execNeg y s
  | .retn y => Sys2Proof.Machine.execRetn y s
  | .reti => Sys2Proof.Machine.execReti s
  | .im0 u => Sys2Proof.Machine.execIm0 u s
  | .im0Star u => Sys2Proof.Machine.execIm0Star u s
  | .im1 u => Sys2Proof.Machine.execIm1 u s
  | .im2 u => Sys2Proof.Machine.execIm2 u s
  | .ldIA => Sys2Proof.Machine.execLdIA s
  | .ldRefreshA => Sys2Proof.Machine.execLdRefreshA s
  | .ldAI => Sys2Proof.Machine.execLdAI s
  | .ldARefresh => Sys2Proof.Machine.execLdARefresh s
  | .rrd => Sys2Proof.Machine.execRrd s
  | .rld => Sys2Proof.Machine.execRld s
  | .ldi => Sys2Proof.Machine.execLdi s
  | .cpi => Sys2Proof.Machine.execCpi s
  | .ini => Sys2Proof.Machine.execIni s
  | .outi => Sys2Proof.Machine.execOuti s
  | .ldd => Sys2Proof.Machine.execLdd s
  | .cpd => Sys2Proof.Machine.execCpd s
  | .ind => Sys2Proof.Machine.execInd s
  | .outd => Sys2Proof.Machine.execOutd s
  | .ldir => Sys2Proof.Machine.execLdir s
  | .cpir => Sys2Proof.Machine.execCpir s
  | .inir => Sys2Proof.Machine.execInir s
  | .otir => Sys2Proof.Machine.execOtir s
  | .lddr => Sys2Proof.Machine.execLddr s
  | .cpdr => Sys2Proof.Machine.execCpdr s
  | .indr => Sys2Proof.Machine.execIndr s
  | .otdr => Sys2Proof.Machine.execOtdr s
  | .nopEd00 u => Sys2Proof.Machine.execNopEd00 u s
  | .nopEd77 u => Sys2Proof.Machine.execNopEd77 u s
  | .nopEd80 u => Sys2Proof.Machine.execNopEd80 u s
  | .nopEdA4 v w => Sys2Proof.Machine.execNopEdA4 v w s
  | .nopEdC0 u => Sys2Proof.Machine.execNopEdC0 u s
  | .addIxRp x p => Sys2Proof.Machine.execAddIxRp x p s
  | .ldIxNn x nn => Sys2Proof.Machine.execLdIxNn x nn s
  | .ldAtNnIx x nn => Sys2Proof.Machine.execLdAtNnIx x nn s
  | .ldIxAtNn x nn => Sys2Proof.Machine.execLdIxAtNn x nn s
  | .incIx x => Sys2Proof.Machine.execIncIx x s
  | .decIx x => Sys2Proof.Machine.execDecIx x s
  | .incIxp x w => Sys2Proof.Machine.execIncIxp x w s
  | .decIxp x w => Sys2Proof.Machine.execDecIxp x w s
  | .ldIxpN x w n => Sys2Proof.Machine.execLdIxpN x w n s
  | .incAtIxd x d => Sys2Proof.Machine.execIncAtIxd x d s
  | .decAtIxd x d => Sys2Proof.Machine.execDecAtIxd x d s
  | .ldAtIxdN x d n => Sys2Proof.Machine.execLdAtIxdN x d n s
  | .ldRAtIxd x r d => Sys2Proof.Machine.execLdRAtIxd x r d s
  | .ldAtIxdR x r d => Sys2Proof.Machine.execLdAtIxdR x r d s
  | .ldRIxp x r w => Sys2Proof.Machine.execLdRIxp x r w s
  | .ldIxpR x w r => Sys2Proof.Machine.execLdIxpR x w r s
  | .ldIxpIxq x w v => Sys2Proof.Machine.execLdIxpIxq x w v s
  | .addAIxp x w => Sys2Proof.Machine.execAddAIxp x w s
  | .adcAIxp x w => Sys2Proof.Machine.execAdcAIxp x w s
  | .subIxp x w => Sys2Proof.Machine.execSubIxp x w s
  | .sbcAIxp x w => Sys2Proof.Machine.execSbcAIxp x w s
  | .andIxp x w => Sys2Proof.Machine.execAndIxp x w s
  | .xorIxp x w => Sys2Proof.Machine.execXorIxp x w s
  | .orIxp x w => Sys2Proof.Machine.execOrIxp x w s
  | .cpIxp x w => Sys2Proof.Machine.execCpIxp x w s
  | .addAAtIxd x d => Sys2Proof.Machine.execAddAAtIxd x d s
  | .adcAAtIxd x d => Sys2Proof.Machine.execAdcAAtIxd x d s
  | .subAtIxd x d => Sys2Proof.Machine.execSubAtIxd x d s
  | .sbcAAtIxd x d => Sys2Proof.Machine.execSbcAAtIxd x d s
  | .andAtIxd x d => Sys2Proof.Machine.execAndAtIxd x d s
  | .xorAtIxd x d => Sys2Proof.Machine.execXorAtIxd x d s
  | .orAtIxd x d => Sys2Proof.Machine.execOrAtIxd x d s
  | .cpAtIxd x d => Sys2Proof.Machine.execCpAtIxd x d s
  | .popIx x => Sys2Proof.Machine.execPopIx x s
  | .pushIx x => Sys2Proof.Machine.execPushIx x s
  | .exAtSpIx x => Sys2Proof.Machine.execExAtSpIx x s
  | .jpAtIx x => Sys2Proof.Machine.execJpAtIx x s
  | .ldSpIx x => Sys2Proof.Machine.execLdSpIx x s
  | .xyThenXy x u => Sys2Proof.Machine.execXyThenXy x u s
  | .xyThenEd x => Sys2Proof.Machine.execXyThenEd x s
  | .xyFallThrough x inner => Sys2Proof.Machine.execXyFallThrough x inner s
  | .rlcAtIxd x d copy => Sys2Proof.Machine.execRlcAtIxd x d copy s
  | .rrcAtIxd x d copy => Sys2Proof.Machine.execRrcAtIxd x d copy s
  | .rlAtIxd x d copy => Sys2Proof.Machine.execRlAtIxd x d copy s
  | .rrAtIxd x d copy => Sys2Proof.Machine.execRrAtIxd x d copy s
  | .slaAtIxd x d copy => Sys2Proof.Machine.execSlaAtIxd x d copy s
  | .sraAtIxd x d copy => Sys2Proof.Machine.execSraAtIxd x d copy s
  | .sllAtIxd x d copy => Sys2Proof.Machine.execSllAtIxd x d copy s
  | .srlAtIxd x d copy => Sys2Proof.Machine.execSrlAtIxd x d copy s
  | .bitAtIxd x d b z => Sys2Proof.Machine.execBitAtIxd x d b z s
  | .resAtIxd x d b copy => Sys2Proof.Machine.execResAtIxd x d b copy s
  | .setAtIxd x d b copy => Sys2Proof.Machine.execSetAtIxd x d b copy s

end Sys2Proof.Machine
end

