-- ==== Sys2Proof/WellFormed.lean ====
section
/-! DEFINITION. Which terms of Instr are instructions, that is, have an encoding. -/

namespace Sys2Proof

/-- The operand selectors that a DD or FD byte redirects (R320): H, L and (HL). -/
def Reg8.isHL : Reg8 → Bool
  | .h | .l => true
  | _ => false

def Loc8.namesHL : Loc8 → Bool
  | .reg r => r.isHL
  | .atHL => true

/-- The conditions JR has (R177). -/
def Cond.isJr : Cond → Bool
  | .nz | .z | .nc | .c => true
  | _ => false

/-- The unprefixed instructions that a DD or FD byte leaves unchanged, the entries `-` of the map of R92: those
that name none of H, L, HL and (HL), and EX DE,HL, EXX and HALT (R98). -/
def Instr.fallsThrough : Instr → Bool
  | .nop | .exAfAf | .ldAtBcA | .ldAtDeA | .ldAAtBc | .ldAAtDe | .ldAtNnA _ | .ldAAtNn _ => true
  | .ldRpNn p _ | .incRp p | .decRp p => p != .hl
  | .incR y | .decR y | .ldRN y _ => !y.namesHL
  | .rlca | .rrca | .rla | .rra | .daa | .cpl | .scf | .ccf | .djnz _ | .jr _ | .jrCc _ _ => true
  | .halt => true
  | .ldRR dst src => !dst.isHL && !src.isHL
  | .addAR z | .adcAR z | .subR z | .sbcAR z | .andR z | .xorR z | .orR z | .cpR z => !z.namesHL
  | .popRp2 p | .pushRp2 p => p != .hl
  | .retCc _ | .ret | .exx | .jpCcNn _ _ | .jpNn _ | .outAtNA _ | .inAAtN _ | .exDeHl | .di | .ei => true
  | .callCcNn _ _ | .callNn _ | .addAN _ | .adcAN _ | .subN _ | .sbcAN _ | .andN _ | .xorN _ | .orN _ => true
  | .cpN _ | .rst _ => true
  | _ => false

/-- The checks a term must pass to be an instruction:
* JR cc has the conditions NZ, Z, NC and C only (R177);
* RETN's y is not 1, which is RETI (R280);
* LD r,IXp and LD IXp,r name neither H nor L, which the prefix redirects (R335, R336);
* what a prefix falls through to has no indexed meaning and is well formed itself (R98, R359). -/
def Instr.wellFormed : Instr → Bool
  | .jrCc cc _ => cc.isJr
  | .retn y => y != 1
  | .ldRIxp _ r _ => !r.isHL
  | .ldIxpR _ _ r => !r.isHL
  | .xyFallThrough _ inner => inner.fallsThrough && inner.wellFormed
  | _ => true

end Sys2Proof
end

