-- ==== Sys2Proof/Decode.lean ====
section
/-! DEFINITION. Decoding (30_encoding.md, R75 to R103), total on any four bytes, and after it the encoder, written
from the same tables. The machine's step reads four bytes from PC (R78: the opcode and d1, d2, d3) and decodes
them here; nothing else in the model sees an encoding. -/

namespace Sys2Proof

/-- Why bytes are no instruction. -/
inductive DecodeError
  /-- A prefix byte stands where an operation byte is read. No four bytes give it (R8, R100): it is the answer of the
  unprefixed table alone for CB, DD, ED and FD, which `decodeBytes` takes first (R83). -/
  | prefixByte
  /-- A list of bytes ends inside an instruction. Only `decode` on a list gives it, never the machine's fetch. -/
  | truncated
  deriving DecidableEq, Repr

/-! ## Selector tables -/

/-- r8[s] (R84). -/
def loc8Of (s : BitVec 3) : Loc8 :=
  match s.toNat with
  | 0 => .reg .b | 1 => .reg .c | 2 => .reg .d | 3 => .reg .e
  | 4 => .reg .h | 5 => .reg .l | 6 => .atHL | _ => .reg .a

/-- The register of a selector, none for 110. -/
def reg8Of (s : BitVec 3) : Option Reg8 :=
  match loc8Of s with
  | .reg r => some r
  | .atHL => none

/-- rp[p] (R85). -/
def pairOf (p : BitVec 2) : Pair :=
  match p.toNat with
  | 0 => .bc | 1 => .de | 2 => .hl | _ => .sp

/-- rp2[p] (R85). -/
def stackPairOf (p : BitVec 2) : StackPair :=
  match p.toNat with
  | 0 => .bc | 1 => .de | 2 => .hl | _ => .af

/-- rp[p] under DD or FD (R320, R321). -/
def indexPairOf (p : BitVec 2) : IndexPair :=
  match p.toNat with
  | 0 => .bc | 1 => .de | 2 => .self | _ => .sp

/-- cond[c] (R86). -/
def condOf (c : BitVec 3) : Cond :=
  match c.toNat with
  | 0 => .nz | 1 => .z | 2 => .nc | 3 => .c | 4 => .po | 5 => .pe | 6 => .p | _ => .m

/-- The half that selector 100 or 101 names under DD or FD (R320), from the selector's bit 0. -/
def halfOf (b0 : Bool) : Half := if b0 then .low else .high

/-- A selector under DD or FD (R320): a register the prefix leaves alone, a half of IX, or (IX+d). -/
inductive XLoc
  | plain (r : Reg8)
  | half (w : Half)
  | atIxd
  deriving DecidableEq, Repr

def xLocOf (s : BitVec 3) : XLoc :=
  match loc8Of s with
  | .reg .h => .half .high
  | .reg .l => .half .low
  | .reg r => .plain r
  | .atHL => .atIxd

/-! ## The tables -/

/-- The unprefixed map, class 00 (R89, 41_class00.md); `d1`, `d2` are the bytes after the operation byte (R78). -/
def decodeClass00 (op d1 d2 : Byte) : Instr :=
  match (opZ op).toNat with
  | 0 =>
    match (opY op).toNat with
    | 0 => .nop
    | 1 => .exAfAf
    | 2 => .djnz d1
    | 3 => .jr d1
    | _ => .jrCc (condOf (opY op - 4)) d1
  | 1 => if opQ op = 0 then .ldRpNn (pairOf (opP op)) (concat d2 d1) else .addHlRp (pairOf (opP op))
  | 2 =>
    match (opY op).toNat with
    | 0 => .ldAtBcA
    | 1 => .ldAAtBc
    | 2 => .ldAtDeA
    | 3 => .ldAAtDe
    | 4 => .ldAtNnHl (concat d2 d1)
    | 5 => .ldHlAtNn (concat d2 d1)
    | 6 => .ldAtNnA (concat d2 d1)
    | _ => .ldAAtNn (concat d2 d1)
  | 3 => if opQ op = 0 then .incRp (pairOf (opP op)) else .decRp (pairOf (opP op))
  | 4 => .incR (loc8Of (opY op))
  | 5 => .decR (loc8Of (opY op))
  | 6 => .ldRN (loc8Of (opY op)) d1
  | _ =>
    match (opY op).toNat with
    | 0 => .rlca
    | 1 => .rrca
    | 2 => .rla
    | 3 => .rra
    | 4 => .daa
    | 5 => .cpl
    | 6 => .scf
    | _ => .ccf

/-- Class 01 (R190): HALT is taken out before the operands are resolved. -/
def decodeClass01 (op : Byte) : Instr :=
  match loc8Of (opY op), loc8Of (opZ op) with
  | .atHL, .atHL => .halt
  | .reg dst, .reg src => .ldRR dst src
  | .reg dst, .atHL => .ldRAtHl dst
  | .atHL, .reg src => .ldAtHlR src

/-- Class 10 (R195), by alu[y] (R87). -/
def decodeClass10 (op : Byte) : Instr :=
  match (opY op).toNat with
  | 0 => .addAR (loc8Of (opZ op))
  | 1 => .adcAR (loc8Of (opZ op))
  | 2 => .subR (loc8Of (opZ op))
  | 3 => .sbcAR (loc8Of (opZ op))
  | 4 => .andR (loc8Of (opZ op))
  | 5 => .xorR (loc8Of (opZ op))
  | 6 => .orR (loc8Of (opZ op))
  | _ => .cpR (loc8Of (opZ op))

/-- Class 11 (R89, 44_class11.md); the four prefix bytes are not instructions of their own (R210). -/
def decodeClass11 (op d1 d2 : Byte) : Except DecodeError Instr :=
  match (opZ op).toNat with
  | 0 => .ok (.retCc (condOf (opY op)))
  | 1 =>
    if opQ op = 0 then .ok (.popRp2 (stackPairOf (opP op)))
    else
      match (opP op).toNat with
      | 0 => .ok .ret
      | 1 => .ok .exx
      | 2 => .ok .jpAtHl
      | _ => .ok .ldSpHl
  | 2 => .ok (.jpCcNn (condOf (opY op)) (concat d2 d1))
  | 3 =>
    match (opY op).toNat with
    | 0 => .ok (.jpNn (concat d2 d1))
    | 1 => .error .prefixByte
    | 2 => .ok (.outAtNA d1)
    | 3 => .ok (.inAAtN d1)
    | 4 => .ok .exAtSpHl
    | 5 => .ok .exDeHl
    | 6 => .ok .di
    | _ => .ok .ei
  | 4 => .ok (.callCcNn (condOf (opY op)) (concat d2 d1))
  | 5 =>
    if opQ op = 0 then .ok (.pushRp2 (stackPairOf (opP op)))
    else
      match (opP op).toNat with
      | 0 => .ok (.callNn (concat d2 d1))
      | _ => .error .prefixByte
  | 6 =>
    match (opY op).toNat with
    | 0 => .ok (.addAN d1)
    | 1 => .ok (.adcAN d1)
    | 2 => .ok (.subN d1)
    | 3 => .ok (.sbcAN d1)
    | 4 => .ok (.andN d1)
    | 5 => .ok (.xorN d1)
    | 6 => .ok (.orN d1)
    | _ => .ok (.cpN d1)
  | _ => .ok (.rst (opY op))

/-- The unprefixed table by class band (R77). -/
def decodeMain (op d1 d2 : Byte) : Except DecodeError Instr :=
  match (opX op).toNat with
  | 0 => .ok (decodeClass00 op d1 d2)
  | 1 => .ok (decodeClass01 op)
  | 2 => .ok (decodeClass10 op)
  | _ => decodeClass11 op d1 d2

/-- The CB table (R90, R250). -/
def decodeCb (op : Byte) : Instr :=
  match (opX op).toNat with
  | 0 =>
    match (opY op).toNat with
    | 0 => .rlcR (loc8Of (opZ op))
    | 1 => .rrcR (loc8Of (opZ op))
    | 2 => .rlR (loc8Of (opZ op))
    | 3 => .rrR (loc8Of (opZ op))
    | 4 => .slaR (loc8Of (opZ op))
    | 5 => .sraR (loc8Of (opZ op))
    | 6 => .sllR (loc8Of (opZ op))
    | _ => .srlR (loc8Of (opZ op))
  | 1 =>
    match loc8Of (opZ op) with
    | .reg r => .bitR (opY op) r
    | .atHL => .bitAtHl (opY op)
  | 2 => .resR (opY op) (loc8Of (opZ op))
  | _ => .setR (opY op) (loc8Of (opZ op))

/-- The ED table, x = 1 (R91, R270); `lo`, `hi` are the bytes after op (ED4, R78). -/
def decodeEd1 (op lo hi : Byte) : Instr :=
  match (opZ op).toNat with
  | 0 =>
    match loc8Of (opY op) with
    | .reg r => .inRAtC r
    | .atHL => .inAtC
  | 1 =>
    match loc8Of (opY op) with
    | .reg r => .outAtCR r
    | .atHL => .outAtC0
  | 2 => if opQ op = 0 then .sbcHlRp (pairOf (opP op)) else .adcHlRp (pairOf (opP op))
  | 3 =>
    if opQ op = 0 then .ldAtNnRp (pairOf (opP op)) (concat hi lo) else .ldRpAtNn (pairOf (opP op)) (concat hi lo)
  | 4 => .neg (opY op)
  | 5 => if opY op = 1 then .reti else .retn (opY op)
  | 6 =>
    match (opP op).extractLsb' 0 1, opQ op with
    | 0, 0 => .im0 (op.extractLsb' 5 1)
    | 0, _ => .im0Star (op.extractLsb' 5 1)
    | _, 0 => .im1 (op.extractLsb' 5 1)
    | _, _ => .im2 (op.extractLsb' 5 1)
  | _ =>
    match (opY op).toNat with
    | 0 => .ldIA
    | 1 => .ldRefreshA
    | 2 => .ldAI
    | 3 => .ldARefresh
    | 4 => .rrd
    | 5 => .rld
    | _ => .nopEd77 (op.extractLsb' 3 1)

/-- The ED table, x = 2 (R91, R270): the block instructions, and NOP* elsewhere. -/
def decodeEd2 (op : Byte) : Instr :=
  match (opY op).toNat, (opZ op).toNat with
  | 4, 0 => .ldi
  | 4, 1 => .cpi
  | 4, 2 => .ini
  | 4, 3 => .outi
  | 5, 0 => .ldd
  | 5, 1 => .cpd
  | 5, 2 => .ind
  | 5, 3 => .outd
  | 6, 0 => .ldir
  | 6, 1 => .cpir
  | 6, 2 => .inir
  | 6, 3 => .otir
  | 7, 0 => .lddr
  | 7, 1 => .cpdr
  | 7, 2 => .indr
  | 7, 3 => .otdr
  | y, _ =>
    if y < 4 then .nopEd80 (op.extractLsb' 0 5) else .nopEdA4 (op.extractLsb' 3 2) (op.extractLsb' 0 2)

/-- The ED table (R91, R270). -/
def decodeEd (op lo hi : Byte) : Instr :=
  match (opX op).toNat with
  | 0 => .nopEd00 (op.extractLsb' 0 6)
  | 1 => decodeEd1 op lo hi
  | 2 => decodeEd2 op
  | _ => .nopEdC0 (op.extractLsb' 0 6)

/-- The DD/FD table, class 00 (R92); `b2`, `b3` are the bytes at pc0 + 2 and pc0 + 3 (R78). -/
def decodeIndexed00 (x : Idx) (op b2 b3 : Byte) : Option Instr :=
  match (opZ op).toNat with
  | 1 =>
    if opQ op = 1 then some (.addIxRp x (indexPairOf (opP op)))
    else if opP op = 2 then some (.ldIxNn x (concat b3 b2))
    else none
  | 2 =>
    match (opY op).toNat with
    | 4 => some (.ldAtNnIx x (concat b3 b2))
    | 5 => some (.ldIxAtNn x (concat b3 b2))
    | _ => none
  | 3 =>
    if opP op = 2 then some (if opQ op = 0 then .incIx x else .decIx x)
    else none
  | 4 =>
    match xLocOf (opY op) with
    | .half w => some (.incIxp x w)
    | .atIxd => some (.incAtIxd x b2)
    | .plain _ => none
  | 5 =>
    match xLocOf (opY op) with
    | .half w => some (.decIxp x w)
    | .atIxd => some (.decAtIxd x b2)
    | .plain _ => none
  | 6 =>
    match xLocOf (opY op) with
    | .half w => some (.ldIxpN x w b2)
    | .atIxd => some (.ldAtIxdN x b2 b3)
    | .plain _ => none
  | _ => none

/-- The DD/FD table, class 01 (R92). With an (IX+d) operand the other selector keeps its real meaning (R320). -/
def decodeIndexed01 (x : Idx) (op b2 : Byte) : Option Instr :=
  match loc8Of (opY op), loc8Of (opZ op) with
  | .atHL, .atHL => none
  | .reg r, .atHL => some (.ldRAtIxd x r b2)
  | .atHL, .reg r => some (.ldAtIxdR x r b2)
  | .reg _, .reg _ =>
    match xLocOf (opY op), xLocOf (opZ op) with
    | .half w, .half v => some (.ldIxpIxq x w v)
    | .half w, .plain r => some (.ldIxpR x w r)
    | .plain r, .half w => some (.ldRIxp x r w)
    | _, _ => none

/-- The DD/FD table, class 10 (R92), by alu[y] (R87). -/
def decodeIndexed10 (x : Idx) (op b2 : Byte) : Option Instr :=
  match xLocOf (opZ op) with
  | .plain _ => none
  | .half w =>
    match (opY op).toNat with
    | 0 => some (.addAIxp x w)
    | 1 => some (.adcAIxp x w)
    | 2 => some (.subIxp x w)
    | 3 => some (.sbcAIxp x w)
    | 4 => some (.andIxp x w)
    | 5 => some (.xorIxp x w)
    | 6 => some (.orIxp x w)
    | _ => some (.cpIxp x w)
  | .atIxd =>
    match (opY op).toNat with
    | 0 => some (.addAAtIxd x b2)
    | 1 => some (.adcAAtIxd x b2)
    | 2 => some (.subAtIxd x b2)
    | 3 => some (.sbcAAtIxd x b2)
    | 4 => some (.andAtIxd x b2)
    | 5 => some (.xorAtIxd x b2)
    | 6 => some (.orAtIxd x b2)
    | _ => some (.cpAtIxd x b2)

/-- The DD/FD table, class 11 without the prefix bytes (R92). -/
def decodeIndexed11 (x : Idx) (op : Byte) : Option Instr :=
  if op = 0xE1 then some (.popIx x)
  else if op = 0xE3 then some (.exAtSpIx x)
  else if op = 0xE5 then some (.pushIx x)
  else if op = 0xE9 then some (.jpAtIx x)
  else if op = 0xF9 then some (.ldSpIx x)
  else none

/-- The indexed meaning of op under DD or FD, none where the map of R92 has `-`. -/
def decodeIndexed (x : Idx) (op b2 b3 : Byte) : Option Instr :=
  match (opX op).toNat with
  | 0 => decodeIndexed00 x op b2 b3
  | 1 => decodeIndexed01 x op b2
  | 2 => decodeIndexed10 x op b2
  | _ => decodeIndexed11 x op

/-- The DDCB/FDCB table (R93, R380). -/
def decodeXcb (x : Idx) (d op : Byte) : Instr :=
  match (opX op).toNat with
  | 0 =>
    match (opY op).toNat with
    | 0 => .rlcAtIxd x d (reg8Of (opZ op))
    | 1 => .rrcAtIxd x d (reg8Of (opZ op))
    | 2 => .rlAtIxd x d (reg8Of (opZ op))
    | 3 => .rrAtIxd x d (reg8Of (opZ op))
    | 4 => .slaAtIxd x d (reg8Of (opZ op))
    | 5 => .sraAtIxd x d (reg8Of (opZ op))
    | 6 => .sllAtIxd x d (reg8Of (opZ op))
    | _ => .srlAtIxd x d (reg8Of (opZ op))
  | 1 => .bitAtIxd x d (opY op) (opZ op)
  | 2 => .resAtIxd x d (opY op) (reg8Of (opZ op))
  | _ => .setAtIxd x d (opY op) (reg8Of (opZ op))

/-- What follows a DD or FD byte (R83, R98, R99). -/
def decodeXy (x : Idx) (b1 b2 b3 : Byte) : Except DecodeError Instr :=
  if b1 = 0xDD then .ok (.xyThenXy x .ix)
  else if b1 = 0xFD then .ok (.xyThenXy x .iy)
  else if b1 = 0xED then .ok (.xyThenEd x)
  else if b1 = 0xCB then .ok (decodeXcb x b2 b3)
  else
    match decodeIndexed x b1 b2 b3 with
    | some i => .ok i
    | none =>
      match decodeMain b1 b2 b3 with
      | .ok inner => .ok (.xyFallThrough x inner)
      | .error r => .error r

/-- The instruction whose bytes from pc0 on are b0, b1, b2, b3 (R83's prefix handling). Bytes beyond the
instruction's own are not looked at, but for the byte after the prefix of a prefix no-op (R99). -/
def decodeBytes (b0 b1 b2 b3 : Byte) : Except DecodeError Instr :=
  if b0 = 0xCB then .ok (decodeCb b1)
  else if b0 = 0xED then .ok (decodeEd b1 b2 b3)
  else if b0 = 0xDD then decodeXy .ix b1 b2 b3
  else if b0 = 0xFD then decodeXy .iy b1 b2 b3
  else decodeMain b0 b1 b2

/-! ## Length and opcode fetches -/

/-- The instruction's length in bytes, by its format (R75, R103). -/
def Instr.length : Instr → Nat
  -- U2n and U2e, U3
  | .ldRN _ _ | .djnz _ | .jr _ | .jrCc _ _ | .outAtNA _ | .inAAtN _ => 2
  | .addAN _ | .adcAN _ | .subN _ | .sbcAN _ | .andN _ | .xorN _ | .orN _ | .cpN _ => 2
  | .ldRpNn _ _ | .ldAtNnHl _ | .ldHlAtNn _ | .ldAtNnA _ | .ldAAtNn _ => 3
  | .jpCcNn _ _ | .jpNn _ | .callCcNn _ _ | .callNn _ => 3
  -- U1
  | .nop | .exAfAf | .addHlRp _ | .ldAtBcA | .ldAtDeA | .ldAAtBc | .ldAAtDe | .incRp _ | .decRp _ => 1
  | .incR _ | .decR _ | .rlca | .rrca | .rla | .rra | .daa | .cpl | .scf | .ccf | .halt => 1
  | .ldRR _ _ | .ldRAtHl _ | .ldAtHlR _ => 1
  | .addAR _ | .adcAR _ | .subR _ | .sbcAR _ | .andR _ | .xorR _ | .orR _ | .cpR _ => 1
  | .retCc _ | .popRp2 _ | .ret | .exx | .jpAtHl | .ldSpHl | .exAtSpHl | .exDeHl | .di | .ei => 1
  | .pushRp2 _ | .rst _ => 1
  -- CB
  | .rlcR _ | .rrcR _ | .rlR _ | .rrR _ | .slaR _ | .sraR _ | .sllR _ | .srlR _ => 2
  | .bitR _ _ | .bitAtHl _ | .resR _ _ | .setR _ _ => 2
  -- ED4 and ED2
  | .ldAtNnRp _ _ | .ldRpAtNn _ _ => 4
  | .inRAtC _ | .inAtC | .outAtCR _ | .outAtC0 | .sbcHlRp _ | .adcHlRp _ | .neg _ | .retn _ | .reti => 2
  | .im0 _ | .im0Star _ | .im1 _ | .im2 _ | .ldIA | .ldRefreshA | .ldAI | .ldARefresh | .rrd | .rld => 2
  | .ldi | .cpi | .ini | .outi | .ldd | .cpd | .ind | .outd => 2
  | .ldir | .cpir | .inir | .otir | .lddr | .cpdr | .indr | .otdr => 2
  | .nopEd00 _ | .nopEd77 _ | .nopEd80 _ | .nopEdA4 _ _ | .nopEdC0 _ => 2
  -- X4, X4dn
  | .ldIxNn _ _ | .ldAtNnIx _ _ | .ldIxAtNn _ _ | .ldAtIxdN _ _ _ => 4
  -- X3n, X3d
  | .ldIxpN _ _ _ | .incAtIxd _ _ | .decAtIxd _ _ | .ldRAtIxd _ _ _ | .ldAtIxdR _ _ _ => 3
  | .addAAtIxd _ _ | .adcAAtIxd _ _ | .subAtIxd _ _ | .sbcAAtIxd _ _ => 3
  | .andAtIxd _ _ | .xorAtIxd _ _ | .orAtIxd _ _ | .cpAtIxd _ _ => 3
  -- X2
  | .addIxRp _ _ | .incIx _ | .decIx _ | .incIxp _ _ | .decIxp _ _ => 2
  | .ldRIxp _ _ _ | .ldIxpR _ _ _ | .ldIxpIxq _ _ _ => 2
  | .addAIxp _ _ | .adcAIxp _ _ | .subIxp _ _ | .sbcAIxp _ _ => 2
  | .andIxp _ _ | .xorIxp _ _ | .orIxp _ _ | .cpIxp _ _ => 2
  | .popIx _ | .pushIx _ | .exAtSpIx _ | .jpAtIx _ | .ldSpIx _ => 2
  -- XP and the fall-through
  | .xyThenXy _ _ | .xyThenEd _ => 1
  | .xyFallThrough _ inner => 1 + inner.length
  -- XCB
  | .rlcAtIxd _ _ _ | .rrcAtIxd _ _ _ | .rlAtIxd _ _ _ | .rrAtIxd _ _ _ => 4
  | .slaAtIxd _ _ _ | .sraAtIxd _ _ _ | .sllAtIxd _ _ _ | .srlAtIxd _ _ _ => 4
  | .bitAtIxd _ _ _ _ | .resAtIxd _ _ _ _ | .setAtIxd _ _ _ _ => 4

/-- The rows of the unprefixed table. -/
def Instr.isMain : Instr → Bool
  | .nop | .ldRpNn _ _ | .exAfAf | .addHlRp _ | .ldAtBcA | .ldAtDeA | .ldAAtBc | .ldAAtDe => true
  | .ldAtNnHl _ | .ldHlAtNn _ | .ldAtNnA _ | .ldAAtNn _ | .incRp _ | .decRp _ => true
  | .incR _ | .decR _ | .ldRN _ _ | .rlca | .rrca | .rla | .rra | .daa | .cpl | .scf | .ccf => true
  | .djnz _ | .jr _ | .jrCc _ _ | .halt | .ldRR _ _ | .ldRAtHl _ | .ldAtHlR _ => true
  | .addAR _ | .adcAR _ | .subR _ | .sbcAR _ | .andR _ | .xorR _ | .orR _ | .cpR _ => true
  | .retCc _ | .popRp2 _ | .ret | .exx | .jpAtHl | .ldSpHl | .jpCcNn _ _ | .jpNn _ => true
  | .outAtNA _ | .inAAtN _ | .exAtSpHl | .exDeHl | .di | .ei | .callCcNn _ _ | .pushRp2 _ | .callNn _ => true
  | .addAN _ | .adcAN _ | .subN _ | .sbcAN _ | .andN _ | .xorN _ | .orN _ | .cpN _ | .rst _ => true
  | _ => false

/-- The number of M1 fetches of an instruction, what bumpR adds (R96): 1 for an unprefixed instruction and for a
prefix consumed as a no-op, 2 for every other. -/
def Instr.m1Count (i : Instr) : Nat :=
  match i with
  | .xyThenXy _ _ | .xyThenEd _ => 1
  | _ => if i.isMain then 1 else 2

/-- Decoding a list of bytes: the instruction at its head and the rest. A missing byte reads as 0 while decoding,
and the list is refused when it is shorter than the instruction. -/
def decode (bs : List Byte) : Except DecodeError (Instr × List Byte) :=
  match bs with
  | [] => .error .truncated
  | b0 :: rest =>
    match decodeBytes b0 (rest.getD 0 0) (rest.getD 1 0) (rest.getD 2 0) with
    | .error r => .error r
    | .ok i => if i.length ≤ bs.length then .ok (i, bs.drop i.length) else .error .truncated

/-! ## The host's table words -/

/-- Byte k of the table word w of nbits bits, as the bytes lie in memory: the table has the first byte highest (R102,
log entry 2), and every byte after nbits is 0. -/
def tableByte (nbits w k : Nat) : Byte :=
  let n := (nbits + 7) / 8
  if k < n then BitVec.ofNat 8 (w >>> (8 * (n - 1 - k))) else 0

/-- The instruction of a table word. -/
def decodeTableWord (nbits w : Nat) : Option Instr :=
  match decodeBytes (tableByte nbits w 0) (tableByte nbits w 1) (tableByte nbits w 2) (tableByte nbits w 3) with
  | .ok i => some i
  | .error _ => none

/-! ## The encoder -/

def Reg8.code : Reg8 → BitVec 3
  | .b => 0 | .c => 1 | .d => 2 | .e => 3 | .h => 4 | .l => 5 | .a => 7

def Loc8.code : Loc8 → BitVec 3
  | .reg r => r.code
  | .atHL => 6

/-- The z of a DDCB form: 110 when nothing is copied (R93). -/
def copyCode : Option Reg8 → BitVec 3
  | some r => r.code
  | none => 6

def Pair.code : Pair → BitVec 2
  | .bc => 0 | .de => 1 | .hl => 2 | .sp => 3

def StackPair.code : StackPair → BitVec 2
  | .bc => 0 | .de => 1 | .hl => 2 | .af => 3

def IndexPair.code : IndexPair → BitVec 2
  | .bc => 0 | .de => 1 | .self => 2 | .sp => 3

def Cond.code : Cond → BitVec 3
  | .nz => 0 | .z => 1 | .nc => 2 | .c => 3 | .po => 4 | .pe => 5 | .p => 6 | .m => 7

/-- The prefix byte (R75). -/
def Idx.byte : Idx → Byte
  | .ix => 0xDD
  | .iy => 0xFD

/-- The selector of a half (R320). -/
def Half.code : Half → BitVec 3
  | .high => 4
  | .low => 5

/-- The bytes of a well-formed instruction, in memory order, as the rule of each gives its encoding. For a prefix
no-op they are the two bytes that its row compares: its own one byte and the byte that is only looked at (R102). -/
def encode : Instr → List Byte
  | .nop => [0x00]
  | .ldRpNn p nn => [opByteP 0 p.code 0 1, lo8 nn, hi8 nn]
  | .exAfAf => [0x08]
  | .addHlRp p => [opByteP 0 p.code 1 1]
  | .ldAtBcA => [0x02]
  | .ldAtDeA => [0x12]
  | .ldAAtBc => [0x0A]
  | .ldAAtDe => [0x1A]
  | .ldAtNnHl nn => [0x22, lo8 nn, hi8 nn]
  | .ldHlAtNn nn => [0x2A, lo8 nn, hi8 nn]
  | .ldAtNnA nn => [0x32, lo8 nn, hi8 nn]
  | .ldAAtNn nn => [0x3A, lo8 nn, hi8 nn]
  | .incRp p => [opByteP 0 p.code 0 3]
  | .decRp p => [opByteP 0 p.code 1 3]
  | .incR y => [opByte 0 y.code 4]
  | .decR y => [opByte 0 y.code 5]
  | .ldRN y n => [opByte 0 y.code 6, n]
  | .rlca => [0x07]
  | .rrca => [0x0F]
  | .rla => [0x17]
  | .rra => [0x1F]
  | .daa => [0x27]
  | .cpl => [0x2F]
  | .scf => [0x37]
  | .ccf => [0x3F]
  | .djnz e => [0x10, e]
  | .jr e => [0x18, e]
  | .jrCc cc e => [opByte 0 (cc.code + 4) 0, e]
  | .halt => [0x76]
  | .ldRR dst src => [opByte 1 dst.code src.code]
  | .ldRAtHl dst => [opByte 1 dst.code 6]
  | .ldAtHlR src => [opByte 1 6 src.code]
  | .addAR z => [opByte 2 0 z.code]
  | .adcAR z => [opByte 2 1 z.code]
  | .subR z => [opByte 2 2 z.code]
  | .sbcAR z => [opByte 2 3 z.code]
  | .andR z => [opByte 2 4 z.code]
  | .xorR z => [opByte 2 5 z.code]
  | .orR z => [opByte 2 6 z.code]
  | .cpR z => [opByte 2 7 z.code]
  | .retCc cc => [opByte 3 cc.code 0]
  | .popRp2 p => [opByteP 3 p.code 0 1]
  | .ret => [0xC9]
  | .exx => [0xD9]
  | .jpAtHl => [0xE9]
  | .ldSpHl => [0xF9]
  | .jpCcNn cc nn => [opByte 3 cc.code 2, lo8 nn, hi8 nn]
  | .jpNn nn => [0xC3, lo8 nn, hi8 nn]
  | .outAtNA n => [0xD3, n]
  | .inAAtN n => [0xDB, n]
  | .exAtSpHl => [0xE3]
  | .exDeHl => [0xEB]
  | .di => [0xF3]
  | .ei => [0xFB]
  | .callCcNn cc nn => [opByte 3 cc.code 4, lo8 nn, hi8 nn]
  | .pushRp2 p => [opByteP 3 p.code 0 5]
  | .callNn nn => [0xCD, lo8 nn, hi8 nn]
  | .addAN n => [0xC6, n]
  | .adcAN n => [0xCE, n]
  | .subN n => [0xD6, n]
  | .sbcAN n => [0xDE, n]
  | .andN n => [0xE6, n]
  | .xorN n => [0xEE, n]
  | .orN n => [0xF6, n]
  | .cpN n => [0xFE, n]
  | .rst y => [opByte 3 y 7]
  | .rlcR z => [0xCB, opByte 0 0 z.code]
  | .rrcR z => [0xCB, opByte 0 1 z.code]
  | .rlR z => [0xCB, opByte 0 2 z.code]
  | .rrR z => [0xCB, opByte 0 3 z.code]
  | .slaR z => [0xCB, opByte 0 4 z.code]
  | .sraR z => [0xCB, opByte 0 5 z.code]
  | .sllR z => [0xCB, opByte 0 6 z.code]
  | .srlR z => [0xCB, opByte 0 7 z.code]
  | .bitR b r => [0xCB, opByte 1 b r.code]
  | .bitAtHl b => [0xCB, opByte 1 b 6]
  | .resR b z => [0xCB, opByte 2 b z.code]
  | .setR b z => [0xCB, opByte 3 b z.code]
  | .inRAtC r => [0xED, opByte 1 r.code 0]
  | .inAtC => [0xED, 0x70]
  | .outAtCR r => [0xED, opByte 1 r.code 1]
  | .outAtC0 => [0xED, 0x71]
  | .sbcHlRp p => [0xED, opByteP 1 p.code 0 2]
  | .adcHlRp p => [0xED, opByteP 1 p.code 1 2]
  | .ldAtNnRp p nn => [0xED, opByteP 1 p.code 0 3, lo8 nn, hi8 nn]
  | .ldRpAtNn p nn => [0xED, opByteP 1 p.code 1 3, lo8 nn, hi8 nn]
  | .neg y => [0xED, opByte 1 y 4]
  | .retn y => [0xED, opByte 1 y 5]
  | .reti => [0xED, 0x4D]
  | .im0 u => [0xED, opByteP 1 (u ++ 0#1) 0 6]
  | .im0Star u => [0xED, opByteP 1 (u ++ 0#1) 1 6]
  | .im1 u => [0xED, opByteP 1 (u ++ 1#1) 0 6]
  | .im2 u => [0xED, opByteP 1 (u ++ 1#1) 1 6]
  | .ldIA => [0xED, 0x47]
  | .ldRefreshA => [0xED, 0x4F]
  | .ldAI => [0xED, 0x57]
  | .ldARefresh => [0xED, 0x5F]
  | .rrd => [0xED, 0x67]
  | .rld => [0xED, 0x6F]
  | .ldi => [0xED, 0xA0]
  | .cpi => [0xED, 0xA1]
  | .ini => [0xED, 0xA2]
  | .outi => [0xED, 0xA3]
  | .ldd => [0xED, 0xA8]
  | .cpd => [0xED, 0xA9]
  | .ind => [0xED, 0xAA]
  | .outd => [0xED, 0xAB]
  | .ldir => [0xED, 0xB0]
  | .cpir => [0xED, 0xB1]
  | .inir => [0xED, 0xB2]
  | .otir => [0xED, 0xB3]
  | .lddr => [0xED, 0xB8]
  | .cpdr => [0xED, 0xB9]
  | .indr => [0xED, 0xBA]
  | .otdr => [0xED, 0xBB]
  | .nopEd00 u => [0xED, 0#2 ++ u]
  | .nopEd77 u => [0xED, 7#4 ++ u ++ 7#3]
  | .nopEd80 u => [0xED, 4#3 ++ u]
  | .nopEdA4 v w => [0xED, 5#3 ++ v ++ 1#1 ++ w]
  | .nopEdC0 u => [0xED, 3#2 ++ u]
  | .addIxRp x p => [x.byte, opByteP 0 p.code 1 1]
  | .ldIxNn x nn => [x.byte, 0x21, lo8 nn, hi8 nn]
  | .ldAtNnIx x nn => [x.byte, 0x22, lo8 nn, hi8 nn]
  | .ldIxAtNn x nn => [x.byte, 0x2A, lo8 nn, hi8 nn]
  | .incIx x => [x.byte, 0x23]
  | .decIx x => [x.byte, 0x2B]
  | .incIxp x w => [x.byte, opByte 0 w.code 4]
  | .decIxp x w => [x.byte, opByte 0 w.code 5]
  | .ldIxpN x w n => [x.byte, opByte 0 w.code 6, n]
  | .incAtIxd x d => [x.byte, 0x34, d]
  | .decAtIxd x d => [x.byte, 0x35, d]
  | .ldAtIxdN x d n => [x.byte, 0x36, d, n]
  | .ldRAtIxd x r d => [x.byte, opByte 1 r.code 6, d]
  | .ldAtIxdR x r d => [x.byte, opByte 1 6 r.code, d]
  | .ldRIxp x r w => [x.byte, opByte 1 r.code w.code]
  | .ldIxpR x w r => [x.byte, opByte 1 w.code r.code]
  | .ldIxpIxq x w v => [x.byte, opByte 1 w.code v.code]
  | .addAIxp x w => [x.byte, opByte 2 0 w.code]
  | .adcAIxp x w => [x.byte, opByte 2 1 w.code]
  | .subIxp x w => [x.byte, opByte 2 2 w.code]
  | .sbcAIxp x w => [x.byte, opByte 2 3 w.code]
  | .andIxp x w => [x.byte, opByte 2 4 w.code]
  | .xorIxp x w => [x.byte, opByte 2 5 w.code]
  | .orIxp x w => [x.byte, opByte 2 6 w.code]
  | .cpIxp x w => [x.byte, opByte 2 7 w.code]
  | .addAAtIxd x d => [x.byte, 0x86, d]
  | .adcAAtIxd x d => [x.byte, 0x8E, d]
  | .subAtIxd x d => [x.byte, 0x96, d]
  | .sbcAAtIxd x d => [x.byte, 0x9E, d]
  | .andAtIxd x d => [x.byte, 0xA6, d]
  | .xorAtIxd x d => [x.byte, 0xAE, d]
  | .orAtIxd x d => [x.byte, 0xB6, d]
  | .cpAtIxd x d => [x.byte, 0xBE, d]
  | .popIx x => [x.byte, 0xE1]
  | .pushIx x => [x.byte, 0xE5]
  | .exAtSpIx x => [x.byte, 0xE3]
  | .jpAtIx x => [x.byte, 0xE9]
  | .ldSpIx x => [x.byte, 0xF9]
  | .xyThenXy x u => [x.byte, u.byte]
  | .xyThenEd x => [x.byte, 0xED]
  | .xyFallThrough x inner => x.byte :: encode inner
  | .rlcAtIxd x d copy => [x.byte, 0xCB, d, opByte 0 0 (copyCode copy)]
  | .rrcAtIxd x d copy => [x.byte, 0xCB, d, opByte 0 1 (copyCode copy)]
  | .rlAtIxd x d copy => [x.byte, 0xCB, d, opByte 0 2 (copyCode copy)]
  | .rrAtIxd x d copy => [x.byte, 0xCB, d, opByte 0 3 (copyCode copy)]
  | .slaAtIxd x d copy => [x.byte, 0xCB, d, opByte 0 4 (copyCode copy)]
  | .sraAtIxd x d copy => [x.byte, 0xCB, d, opByte 0 5 (copyCode copy)]
  | .sllAtIxd x d copy => [x.byte, 0xCB, d, opByte 0 6 (copyCode copy)]
  | .srlAtIxd x d copy => [x.byte, 0xCB, d, opByte 0 7 (copyCode copy)]
  | .bitAtIxd x d b z => [x.byte, 0xCB, d, opByte 1 b z]
  | .resAtIxd x d b copy => [x.byte, 0xCB, d, opByte 2 b (copyCode copy)]
  | .setAtIxd x d b copy => [x.byte, 0xCB, d, opByte 3 b (copyCode copy)]

end Sys2Proof
end

