-- ==== Sys2Proof/Machine/Fetch.lean ====
section
/-! DEFINITION. Fetching an instruction, the effect of its opcode fetches on R, and placing an instruction's bytes in
memory. The step calls these. -/

namespace Sys2Proof.Machine

/-- The instruction at PC: the bytes at pc0, pc0 + 1, pc0 + 2, pc0 + 3, each address mod 2^16, read before any
effect (R57, R65, R78, R83). A read has no side effect (R52), so reading a byte the instruction does not have is not
seen. -/
def State.fetch (s : State) : Except DecodeError Instr :=
  decodeBytes (s.read s.pc) (s.read (s.pc + 1)) (s.read (s.pc + 2)) (s.read (s.pc + 3))

/-- The state an instruction's rule starts from: R counted by the instruction's M1 fetches (R31, R83, R96). -/
def State.fetched (s : State) (i : Instr) : State := s.bumpR i.m1Count

/-- Bytes written at ascending addresses from a on. -/
def State.writeBytes (s : State) (a : Word) : List Byte → State
  | [] => s
  | v :: rest => (s.write a v).writeBytes (a + 1) rest

end Sys2Proof.Machine
end

