-- ==== Sys2Proof/Machine/Step.lean ====
section
/-! DEFINITION. The step (R81 to R83): nothing while HALTED, else one whole instruction. -/

namespace Sys2Proof.Machine

/-- `step()` (R83). -/
def step (s : State) : Host.Outcome State Fault Refusal :=
  if s.halted then .next s
  else
    match s.fetch with
    | .ok i => exec i (s.fetched i)
    | .error _ => .refused .undecodable

/-- `s` with the instruction of a table word stored at its PC, four bytes, and HALTED cleared, without which the step
fetches nothing (R81). -/
def State.withFetchWord (s : State) (nbits w : Nat) : State :=
  (s.writeBytes s.pc
    [tableByte nbits w 0, tableByte nbits w 1, tableByte nbits w 2, tableByte nbits w 3]).setHalted false

end Sys2Proof.Machine
end

