-- ==== Sys2Proof/Machine/HostOps.lean ====
section
/-! DEFINITION. The host's moves between steps (R27, R430, R434): construction, the explicit reset, and reading and
writing cells, memory and the control cells by name. None is part of a step. -/

namespace Sys2Proof.Machine

/-- A cell name of one bank (R20). -/
inductive BankCell
  | a | f | b | c | d | e | h | l
  deriving DecidableEq, Repr

/-- A cell by the host's name for it (R20, R27). -/
inductive HostCell
  /-- A, F, B, C, D, E, H, L: the active view's cell. -/
  | active (k : BankCell)
  /-- A' to L': the shadow cell, whatever ALT is. -/
  | shadow (k : BankCell)
  | i
  | r
  /-- IXH, IXL, IYH, IYL. -/
  | index (x : Idx) (w : Half)
  /-- SPH, SPL. -/
  | sp (w : Half)
  /-- PCH, PCL. -/
  | pc (w : Half)
  deriving DecidableEq, Repr

def Bank.cell (b : Bank) : BankCell → Byte
  | .a => b.a | .f => b.f | .b => b.b | .c => b.c | .d => b.d | .e => b.e | .h => b.h | .l => b.l

def Bank.setCell (b : Bank) (k : BankCell) (v : Byte) : Bank :=
  match k with
  | .a => { b with a := v } | .f => { b with f := v } | .b => { b with b := v } | .c => { b with c := v }
  | .d => { b with d := v } | .e => { b with e := v } | .h => { b with h := v } | .l => { b with l := v }

/-- A half of a 16-bit composite (R22). -/
def halfOfWord (v : Word) : Half → Byte
  | .high => hi8 v
  | .low => lo8 v

/-- A composite with one half replaced (R22). -/
def withHalf (v : Word) (w : Half) (x : Byte) : Word :=
  match w with
  | .high => concat x (lo8 v)
  | .low => concat (hi8 v) x

/-- The host reads a cell (R27). -/
def State.hostRead (s : State) : HostCell → Byte
  | .active k => s.view.cell k
  | .shadow k => s.shad.cell k
  | .i => s.i
  | .r => s.r
  | .index x w => s.getHalf x w
  | .sp w => halfOfWord s.sp w
  | .pc w => halfOfWord s.pc w

/-- The host writes a cell (R27). -/
def State.hostWrite (s : State) (c : HostCell) (v : Byte) : State :=
  match c with
  | .active k => s.setView (s.view.setCell k v)
  | .shadow k => { s with shad := s.shad.setCell k v }
  | .i => s.setI v
  | .r => s.setRefresh v
  | .index x w => s.setHalf x w v
  | .sp w => s.setSp (withHalf s.sp w v)
  | .pc w => s.jump (withHalf s.pc w v)

/-- The host writes ALT (R27, R434); IFF1, IFF2, IM and HALTED are written by setIff1, setIff2, setIm and setHalted,
memory bytes by write and read by read. -/
def State.hostSetAlt (s : State) (v : Bool) : State := { s with alt := v }

/-- Construction, `new(memorySize)` with the other parameters of R7: a memory size of zero is refused before any
state exists (R8, R430(a)). -/
def construct (p : Params) : Result :=
  if p.memSize = 0 then .refused .invalidConfiguration else .next (State.fresh p)

/-- The explicit reset (R430(b)): MEM_SIZE and the other parameters kept, memory cleared when RESET_CLEARS_MEMORY is
true. The record of past draws and events is the model's own and stays (log entry 4). -/
def State.explicitReset (s : State) : State :=
  { State.fresh s.params with
    mem := if s.params.resetClearsMemory then [] else s.mem
    draws := s.draws
    events := s.events }

end Sys2Proof.Machine
end

