-- ==== Sys2Proof/Safety.lean ====
section
/-! DEFINITION. The words in which statements are made: what a good state is, what an instruction may touch, and what each group
of instructions leaves behind, in arithmetic of its own (sums, remainders and digits, not the meanings' formulas). -/

namespace Sys2Proof

/-! ## Which instruction writes what -/

/-- The instruction whose rule runs: what a prefix falls through to, else the instruction itself (R98). -/
def Instr.ruleOf : Instr → Instr
  | .xyFallThrough _ inner => inner
  | i => i

/-- The instructions with a PC rule of their own (R95): jumps, calls, returns, HALT and the repeating block
instructions. -/
def Instr.setsPc : Instr → Bool
  | .djnz _ | .jr _ | .jrCc _ _ | .retCc _ | .ret | .jpAtHl | .jpCcNn _ _ | .jpNn _ => true
  | .callCcNn _ _ | .callNn _ | .rst _ | .retn _ | .reti | .jpAtIx _ | .halt => true
  | .ldir | .lddr | .cpir | .cpdr | .inir | .indr | .otir | .otdr => true
  | _ => false

/-- The writers of SP (R35), with the PUSH and POP of IX. -/
def Instr.writesSp : Instr → Bool
  | .ldRpNn .sp _ | .ldSpHl | .ldSpIx _ | .ldRpAtNn .sp _ | .incRp .sp | .decRp .sp => true
  | .pushRp2 _ | .popRp2 _ | .pushIx _ | .popIx _ | .callCcNn _ _ | .callNn _ | .rst _ => true
  | .retCc _ | .ret | .retn _ | .reti => true
  | _ => false

/-- The instructions that reach a port (R50, R56). -/
def Instr.usesPort : Instr → Bool
  | .inAAtN _ | .outAtNA _ | .inRAtC _ | .inAtC | .outAtCR _ | .outAtC0 => true
  | .ini | .ind | .inir | .indr | .outi | .outd | .otir | .otdr => true
  | _ => false

/-- The instructions that store to memory. -/
def Instr.stores : Instr → Bool
  | .ldAtBcA | .ldAtDeA | .ldAtNnHl _ | .ldAtNnA _ | .ldRN .atHL _ | .incR .atHL | .decR .atHL | .ldAtHlR _ => true
  | .pushRp2 _ | .exAtSpHl | .callCcNn _ _ | .callNn _ | .rst _ => true
  | .rlcR .atHL | .rrcR .atHL | .rlR .atHL | .rrR .atHL | .slaR .atHL | .sraR .atHL | .sllR .atHL => true
  | .srlR .atHL | .resR _ .atHL | .setR _ .atHL => true
  | .ldAtNnRp _ _ | .rrd | .rld | .ldi | .ldd | .ldir | .lddr | .ini | .ind | .inir | .indr => true
  | .ldAtNnIx _ _ | .incAtIxd _ _ | .decAtIxd _ _ | .ldAtIxdN _ _ _ | .ldAtIxdR _ _ _ => true
  | .pushIx _ | .exAtSpIx _ => true
  | .rlcAtIxd _ _ _ | .rrcAtIxd _ _ _ | .rlAtIxd _ _ _ | .rrAtIxd _ _ _ => true
  | .slaAtIxd _ _ _ | .sraAtIxd _ _ _ | .sllAtIxd _ _ _ | .srlAtIxd _ _ _ => true
  | .resAtIxd _ _ _ _ | .setAtIxd _ _ _ _ => true
  | _ => false

/-! ## The registers of a pair -/

/-- The registers of a pair; SP is no 8-bit register. -/
def Pair.regs : Pair → List Reg8
  | .bc => [.b, .c] | .de => [.d, .e] | .hl => [.h, .l] | .sp => []

/-- The registers of a PUSH and POP pair; of AF, A, its low half being F. -/
def StackPair.regs : StackPair → List Reg8
  | .bc => [.b, .c] | .de => [.d, .e] | .hl => [.h, .l] | .af => [.a]

end Sys2Proof

namespace Sys2Proof.Machine

/-! ## Good states and answers -/

/-- A state the host can reach: MEM_SIZE is not 0 (R8), and the memory holds cells 0 .. MEM_SIZE - 1 only (R51).
`canonical` (cell numbers rising, no entry 0) is about the list, the model's choice of data for M: log entry 10. -/
structure State.Inv (s : State) : Prop where
  size : s.params.memSize ≠ 0
  canonical : Memory.wf s.mem
  cells : ∀ c ∈ s.mem, c.1 < s.params.memSize.toNat

/-- The answer is a next state, of which p holds: no fault, no refusal. -/
def Completes (r : Result) (p : State → Prop) : Prop := ∃ t, r = .next t ∧ p t

/-- The two banks exchanged and ALT toggled: the same active view, stored the other way round (R23, R24). -/
def State.swapBanks (s : State) : State := { s with prim := s.shad, shad := s.prim, alt := !s.alt }

/-- The answer with its next state's banks swapped. -/
def swapAnswer : Result → Result
  | .next t => .next t.swapBanks
  | .fault r => .fault r
  | .refused r => .refused r

/-! ## Frames -/

/-- The state beside the numbered registers, the flags and the memory. -/
inductive Special
  | sp | i | r | iff1 | iff2 | im | halted | other | draws | events
  deriving DecidableEq, Repr

/-- What an instruction may change beside PC: registers of the active view, flags of its F, halves of IX and IY,
the addresses stored to, and the rest by name. ALT and the parameters are in no list (R26). -/
structure Touch where
  regs : List Reg8 := []
  flags : List Flag := []
  halves : List (Idx × Half) := []
  stored : List Word := []
  special : List Special := []
  deriving DecidableEq, Repr

/-- From s to t, nothing changed but PC and what m lists: every other register, flag and half, every other special cell, the
other bank, and the byte at every address whose cell is no stored address's cell. -/
structure Touch.Frame (m : Touch) (s t : State) : Prop where
  regs : ∀ r, r ∉ m.regs → t.getReg r = s.getReg r
  flags : ∀ g, g ∉ m.flags → t.flag g = s.flag g
  halves : ∀ x w, (x, w) ∉ m.halves → t.getHalf x w = s.getHalf x w
  mem : ∀ a, (∀ b ∈ m.stored, s.cell a ≠ s.cell b) → t.read a = s.read a
  sp : .sp ∉ m.special → t.sp = s.sp
  i : .i ∉ m.special → t.i = s.i
  r : .r ∉ m.special → t.r = s.r
  iff1 : .iff1 ∉ m.special → t.iff1 = s.iff1
  iff2 : .iff2 ∉ m.special → t.iff2 = s.iff2
  im : .im ∉ m.special → t.im = s.im
  halted : .halted ∉ m.special → t.halted = s.halted
  other : .other ∉ m.special → t.other = s.other
  draws : .draws ∉ m.special → t.draws = s.draws
  events : .events ∉ m.special → t.events = s.events
  alt : t.alt = s.alt
  params : t.params = s.params

/-- All eight flags. -/
def allFlags : List Flag := [.s, .z, .y, .h, .x, .pv, .n, .c]

/-- All flags but C. -/
def notC : List Flag := [.s, .z, .y, .h, .x, .pv, .n]

/-! ## Byte and word destinations -/

/-- A byte destination. -/
inductive Target
  | reg (r : Reg8)
  | half (x : Idx) (w : Half)
  | mem (a : Word)
  deriving DecidableEq, Repr

/-- The byte a destination holds in a state. -/
def Target.value (g : Target) (s : State) : Byte :=
  match g with
  | .reg r => s.getReg r
  | .half x w => s.getHalf x w
  | .mem a => s.read a

/-- Writing a destination touches it and these flags, nothing else. -/
def Target.touch (g : Target) (flags : List Flag) : Touch :=
  match g with
  | .reg r => { regs := [r], flags := flags }
  | .half x w => { halves := [(x, w)], flags := flags }
  | .mem a => { stored := [a], flags := flags }

/-- r8[s] as a destination: INDIRECT-VIA-HL is the byte at HL (R84). -/
def State.target (s : State) : Loc8 → Target
  | .reg r => .reg r
  | .atHL => .mem s.hl

/-- A word destination. -/
inductive WideTarget
  | pair (p : Pair)
  | index (x : Idx)
  | mem (a : Word)
  deriving DecidableEq, Repr

/-- The destination holds v. In memory the high byte lies at a + 1, and the low byte at a unless both addresses
select one cell, where the high byte wins (R55). -/
def WideTarget.Holds (g : WideTarget) (v : Word) (s : State) : Prop :=
  match g with
  | .pair p => s.getPair p = v
  | .index x => s.getIdx x = v
  | .mem a => s.read (a + 1) = hi8 v ∧ (s.cell a ≠ s.cell (a + 1) → s.read a = lo8 v)

def WideTarget.touch (g : WideTarget) (flags : List Flag) : Touch :=
  match g with
  | .pair p => { regs := p.regs, flags := flags, special := if p = .sp then [.sp] else [] }
  | .index x => { halves := [(x, .high), (x, .low)], flags := flags }
  | .mem a => { stored := [a, a + 1], flags := flags }

/-! ## Flags in arithmetic -/

/-- S, Z, Y, X of a byte (R112). -/
structure State.HasSzyx (t : State) (v : Byte) : Prop where
  s : t.flag .s = decide (128 ≤ v.toNat)
  z : t.flag .z = decide (v.toNat = 0)
  y : t.flag .y = v.getLsbD 5
  x : t.flag .x = v.getLsbD 3

/-- An even number of one bits (R111). -/
def evenOnes (v : Byte) : Bool := ((List.range 8).filter fun k => v.getLsbD k).length % 2 == 0

/-- Outside the 8-bit two's complement range. -/
def overflows8 (v : Int) : Bool := decide (v < -128 ∨ 127 < v)

/-- Outside the 16-bit two's complement range. -/
def overflows16 (v : Int) : Bool := decide (v < -32768 ∨ 32767 < v)

/-! ## What the 8-bit arithmetic leaves, with operand byte v, carry in c and length n -/

/-- ADD and ADC (R117): H is the carry out of bit 3 (R113), C out of bit 7, PV the signed overflow. -/
structure Added (s : State) (v : Byte) (c : Bool) (n : Word) (t : State) : Prop where
  result : (t.getReg .a).toNat = ((s.getReg .a).toNat + v.toNat + c.toNat) % 256
  szyx : t.HasSzyx (t.getReg .a)
  half : t.flag .h = decide (15 < (s.getReg .a).toNat % 16 + v.toNat % 16 + c.toNat)
  overflow : t.flag .pv = overflows8 ((s.getReg .a).toInt + v.toInt + c.toNat)
  addition : t.flag .n = false
  carry : t.flag .c = decide (255 < (s.getReg .a).toNat + v.toNat + c.toNat)
  pc : t.pc = s.pc + n
  frame : Touch.Frame { regs := [.a], flags := allFlags } s t

/-- SUB and SBC (R118): H is the borrow into bit 3, C into bit 7. -/
structure Subtracted (s : State) (v : Byte) (c : Bool) (n : Word) (t : State) : Prop where
  result : ((t.getReg .a).toNat : Int) = ((s.getReg .a).toNat - v.toNat - c.toNat) % 256
  szyx : t.HasSzyx (t.getReg .a)
  half : t.flag .h = decide ((s.getReg .a).toNat % 16 < v.toNat % 16 + c.toNat)
  overflow : t.flag .pv = overflows8 ((s.getReg .a).toInt - v.toInt - c.toNat)
  subtraction : t.flag .n = true
  carry : t.flag .c = decide ((s.getReg .a).toNat < v.toNat + c.toNat)
  pc : t.pc = s.pc + n
  frame : Touch.Frame { regs := [.a], flags := allFlags } s t

/-- CP (R119): the flags of SUB, but Y and X from the operand; no register is written. -/
structure Compared (s : State) (v : Byte) (n : Word) (t : State) : Prop where
  sign : t.flag .s = decide (128 ≤ ((s.getReg .a).toNat + 256 - v.toNat) % 256)
  zero : t.flag .z = decide ((s.getReg .a) = v)
  y : t.flag .y = v.getLsbD 5
  x : t.flag .x = v.getLsbD 3
  half : t.flag .h = decide ((s.getReg .a).toNat % 16 < v.toNat % 16)
  overflow : t.flag .pv = overflows8 ((s.getReg .a).toInt - v.toInt)
  subtraction : t.flag .n = true
  carry : t.flag .c = decide ((s.getReg .a).toNat < v.toNat)
  pc : t.pc = s.pc + n
  frame : Touch.Frame { flags := allFlags } s t

/-- AND, XOR, OR (R120 to R122): the result is res, H is half. -/
structure Logical (s : State) (res : Byte) (half : Bool) (n : Word) (t : State) : Prop where
  result : t.getReg .a = res
  szyx : t.HasSzyx res
  half : t.flag .h = half
  parity : t.flag .pv = evenOnes res
  addition : t.flag .n = false
  carry : t.flag .c = false
  pc : t.pc = s.pc + n
  frame : Touch.Frame { regs := [.a], flags := allFlags } s t

/-- INC of a byte (R123): C is untouched. -/
structure Incremented (s : State) (g : Target) (n : Word) (t : State) : Prop where
  result : (g.value t).toNat = ((g.value s).toNat + 1) % 256
  szyx : t.HasSzyx (g.value t)
  half : t.flag .h = decide ((g.value s).toNat % 16 = 15)
  overflow : t.flag .pv = decide ((g.value s).toNat = 127)
  addition : t.flag .n = false
  pc : t.pc = s.pc + n
  frame : (g.touch notC).Frame s t

/-- DEC of a byte (R124): C is untouched. -/
structure Decremented (s : State) (g : Target) (n : Word) (t : State) : Prop where
  result : (g.value t).toNat = ((g.value s).toNat + 255) % 256
  szyx : t.HasSzyx (g.value t)
  half : t.flag .h = decide ((g.value s).toNat % 16 = 0)
  overflow : t.flag .pv = decide ((g.value s).toNat = 128)
  subtraction : t.flag .n = true
  pc : t.pc = s.pc + n
  frame : (g.touch notC).Frame s t

/-! ## Loads -/

/-- A byte load or store: the destination holds v, no flag changes. -/
structure Loaded (s : State) (g : Target) (v : Byte) (n : Word) (t : State) : Prop where
  result : g.value t = v
  pc : t.pc = s.pc + n
  frame : (g.touch []).Frame s t

/-- A word load or store: the destination holds v, no flag changes. -/
structure WideLoaded (s : State) (g : WideTarget) (v : Word) (n : Word) (t : State) : Prop where
  result : g.Holds v t
  pc : t.pc = s.pc + n
  frame : (g.touch []).Frame s t

/-! ## Rotates and shifts -/

/-- The names of rot[y] (R88). -/
inductive Rot
  | rlc | rrc | rl | rr | sla | sra | sll | srl
  deriving DecidableEq, Repr

/-- The result of rot[y] on the byte v with carry in c (R129), as a number. -/
def Rot.result (f : Rot) (v c : Nat) : Nat :=
  match f with
  | .rlc => 2 * v % 256 + v / 128
  | .rrc => v / 2 + 128 * (v % 2)
  | .rl => 2 * v % 256 + c
  | .rr => v / 2 + 128 * c
  | .sla => 2 * v % 256
  | .sra => v / 2 + 128 * (v / 128)
  | .sll => 2 * v % 256 + 1
  | .srl => v / 2

/-- The bit rot[y] shifts out (R129): bit 7 to the left, bit 0 to the right. -/
def Rot.out (f : Rot) (v : Nat) : Bool :=
  match f with
  | .rlc | .rl | .sla | .sll => decide (128 ≤ v)
  | .rrc | .rr | .sra | .srl => decide (v % 2 = 1)

/-- A touch with the copy register of a DDCB form added. -/
def Touch.withCopy (m : Touch) (copy : Option Reg8) : Touch := { m with regs := copy.toList ++ m.regs }

/-- A CB or DDCB rotate or shift of the destination's byte (R263, R380): the copy register, where there is one, holds
the result as well. -/
structure Rotated (f : Rot) (s : State) (g : Target) (copy : Option Reg8) (n : Word) (t : State) : Prop where
  result : (g.value t).toNat = f.result (g.value s).toNat (s.flag .c).toNat
  copied : ∀ r, copy = some r → t.getReg r = g.value t
  szyx : t.HasSzyx (g.value t)
  half : t.flag .h = false
  parity : t.flag .pv = evenOnes (g.value t)
  addition : t.flag .n = false
  carry : t.flag .c = f.out (g.value s).toNat
  pc : t.pc = s.pc + n
  frame : ((g.touch allFlags).withCopy copy).Frame s t

/-- An accumulator rotate (R128): S, Z and PV are untouched. -/
structure AccRotated (f : Rot) (s t : State) : Prop where
  result : (t.getReg .a).toNat = f.result (s.getReg .a).toNat (s.flag .c).toNat
  y : t.flag .y = (t.getReg .a).getLsbD 5
  x : t.flag .x = (t.getReg .a).getLsbD 3
  half : t.flag .h = false
  addition : t.flag .n = false
  carry : t.flag .c = f.out (s.getReg .a).toNat
  pc : t.pc = s.pc + 1
  frame : Touch.Frame { regs := [.a], flags := [.y, .h, .x, .n, .c] } s t

/-- BIT b of the byte v, but for Y and X (R130): C is untouched, and nothing but flags changes. -/
structure BitTested (s : State) (b : BitVec 3) (v : Byte) (n : Word) (special : List Special) (t : State) : Prop where
  zero : t.flag .z = !v.getLsbD b.toNat
  pv : t.flag .pv = !v.getLsbD b.toNat
  sign : t.flag .s = (decide (b.toNat = 7) && v.getLsbD 7)
  half : t.flag .h = true
  addition : t.flag .n = false
  pc : t.pc = s.pc + n
  frame : Touch.Frame { flags := notC, special := special } s t

/-- RES or SET: bit b of the destination's byte is v, its other bits are kept, no flag changes; the copy register,
where there is one, holds the result as well (R261, R262, R390, R391). -/
structure BitWritten (s : State) (g : Target) (b : BitVec 3) (v : Bool) (copy : Option Reg8) (n : Word)
    (t : State) : Prop where
  result : ∀ k, k < 8 → (g.value t).getLsbD k = if k = b.toNat then v else (g.value s).getLsbD k
  copied : ∀ r, copy = some r → t.getReg r = g.value t
  pc : t.pc = s.pc + n
  frame : ((g.touch []).withCopy copy).Frame s t

/-! ## 16-bit arithmetic: a is the old value, b the operand, c the carry in -/

/-- ADD HL,rp and ADD IX,rp (R125): S, Z and PV are untouched. -/
structure WideAdded (s : State) (g : WideTarget) (res a b : Word) (n : Word) (t : State) : Prop where
  holds : g.Holds res t
  result : res.toNat = (a.toNat + b.toNat) % 65536
  y : t.flag .y = res.getLsbD 13
  x : t.flag .x = res.getLsbD 11
  half : t.flag .h = decide (4095 < a.toNat % 4096 + b.toNat % 4096)
  addition : t.flag .n = false
  carry : t.flag .c = decide (65535 < a.toNat + b.toNat)
  pc : t.pc = s.pc + n
  frame : (g.touch [.y, .h, .x, .n, .c]).Frame s t

/-- S, Z, Y, X of a word (R126, R127). -/
structure State.HasWideSzyx (t : State) (v : Word) : Prop where
  s : t.flag .s = decide (32768 ≤ v.toNat)
  z : t.flag .z = decide (v.toNat = 0)
  y : t.flag .y = v.getLsbD 13
  x : t.flag .x = v.getLsbD 11

/-- ADC HL,rp (R126). -/
structure WideCarried (s : State) (b : Word) (t : State) : Prop where
  result : t.hl.toNat = (s.hl.toNat + b.toNat + (s.flag .c).toNat) % 65536
  szyx : t.HasWideSzyx t.hl
  half : t.flag .h = decide (4095 < s.hl.toNat % 4096 + b.toNat % 4096 + (s.flag .c).toNat)
  overflow : t.flag .pv = overflows16 (s.hl.toInt + b.toInt + (s.flag .c).toNat)
  addition : t.flag .n = false
  carry : t.flag .c = decide (65535 < s.hl.toNat + b.toNat + (s.flag .c).toNat)
  pc : t.pc = s.pc + 2
  frame : Touch.Frame { regs := [.h, .l], flags := allFlags } s t

/-- SBC HL,rp (R127). -/
structure WideBorrowed (s : State) (b : Word) (t : State) : Prop where
  result : (t.hl.toNat : Int) = (s.hl.toNat - b.toNat - (s.flag .c).toNat) % 65536
  szyx : t.HasWideSzyx t.hl
  half : t.flag .h = decide (s.hl.toNat % 4096 < b.toNat % 4096 + (s.flag .c).toNat)
  overflow : t.flag .pv = overflows16 (s.hl.toInt - b.toInt - (s.flag .c).toNat)
  subtraction : t.flag .n = true
  carry : t.flag .c = decide (s.hl.toNat < b.toNat + (s.flag .c).toNat)
  pc : t.pc = s.pc + 2
  frame : Touch.Frame { regs := [.h, .l], flags := allFlags } s t

/-! ## Stack and control transfer -/

/-- A word pushed (R210, R57): the high byte at SP - 1, the low byte at SP - 2 unless both addresses select one cell,
SP two lower; PC is target. -/
structure Pushed (s : State) (v target : Word) (t : State) : Prop where
  high : t.read (s.sp - 1) = hi8 v
  low : s.cell (s.sp - 2) ≠ s.cell (s.sp - 1) → t.read (s.sp - 2) = lo8 v
  sp : t.sp = s.sp - 2
  pc : t.pc = target
  frame : Touch.Frame { stored := [s.sp - 2, s.sp - 1], special := [.sp] } s t

/-- A return (R212): PC is the word at SP, its low byte at SP, SP is two higher; nothing else changes but the special
cells listed. -/
structure Returned (s : State) (special : List Special) (t : State) : Prop where
  pc : t.pc.toNat = (s.read s.sp).toNat + 256 * (s.read (s.sp + 1)).toNat
  sp : t.sp = s.sp + 2
  frame : Touch.Frame { special := .sp :: special } s t

/-- Only PC changes, to target. -/
structure Jumped (s : State) (target : Word) (t : State) : Prop where
  pc : t.pc = target
  frame : Touch.Frame {} s t

/-- Only the HALTED, IFF1, IFF2 or IM cells listed, and PC, change. -/
structure Controlled (s : State) (special : List Special) (target : Word) (t : State) : Prop where
  pc : t.pc = target
  frame : Touch.Frame { special := special } s t

/-- The condition table (R86). -/
def State.meets (s : State) (cc : Cond) : Prop :=
  match cc with
  | .nz => s.flag .z = false
  | .z => s.flag .z = true
  | .nc => s.flag .c = false
  | .c => s.flag .c = true
  | .po => s.flag .pv = false
  | .pe => s.flag .pv = true
  | .p => s.flag .s = false
  | .m => s.flag .s = true

/-- The target of a relative jump as a number: two past the instruction, plus the signed displacement (R176). -/
def relativeTo (pc : Word) (e : Byte) : Word := BitVec.ofInt 16 (pc.toNat + 2 + e.toInt)

/-! ## The block instructions; d is the step of the pointers, `rep` that the iteration repeats -/

/-- LDI, LDD and one iteration of LDIR, LDDR (R293 to R296, R137). Y and X of a repeating iteration are draws, of which
nothing is said (R146). -/
structure BlockMoved (s : State) (d : Word) (rep : Bool) (t : State) : Prop where
  stored : t.read s.de = s.read s.hl
  hl : t.hl = s.hl + d
  de : t.de = s.de + d
  bc : t.bc = s.bc - 1
  half : t.flag .h = false
  addition : t.flag .n = false
  left : t.flag .pv = decide (t.bc.toNat ≠ 0)
  y : rep = false → t.flag .y = (s.getReg .a + s.read s.hl).getLsbD 1
  x : rep = false → t.flag .x = (s.getReg .a + s.read s.hl).getLsbD 3
  pc : t.pc = if rep then s.pc else s.pc + 2
  frame : Touch.Frame
    { regs := [.b, .c, .d, .e, .h, .l], flags := [.y, .h, .x, .pv, .n], stored := [s.de],
      special := if rep then [.draws] else [] } s t

/-- CPI, CPD and one iteration of CPIR, CPDR (R297 to R300, R138): a compare of A with the byte at HL; C is untouched. -/
structure BlockCompared (s : State) (d : Word) (rep : Bool) (t : State) : Prop where
  hl : t.hl = s.hl + d
  bc : t.bc = s.bc - 1
  sign : t.flag .s = decide (128 ≤ ((s.getReg .a).toNat + 256 - (s.read s.hl).toNat) % 256)
  zero : t.flag .z = decide (s.getReg .a = s.read s.hl)
  half : t.flag .h = decide ((s.getReg .a).toNat % 16 < (s.read s.hl).toNat % 16)
  subtraction : t.flag .n = true
  left : t.flag .pv = decide (t.bc.toNat ≠ 0)
  y : rep = false → t.flag .y = (s.getReg .a - s.read s.hl - BitVec.ofNat 8 (t.flag .h).toNat).getLsbD 1
  x : rep = false → t.flag .x = (s.getReg .a - s.read s.hl - BitVec.ofNat 8 (t.flag .h).toNat).getLsbD 3
  pc : t.pc = if rep then s.pc else s.pc + 2
  frame : Touch.Frame
    { regs := [.b, .c, .h, .l], flags := notC, special := if rep then [.draws] else [] } s t

/-- The flags of an I/O block iteration from the byte v, the m of R139 and the new B; H, PV, Y and X of a repeating
iteration are draws, of which nothing is said (R146). -/
structure State.HasIoFlags (t : State) (v : Byte) (m : Nat) (rep : Bool) : Prop where
  sign : t.flag .s = decide (128 ≤ (t.getReg .b).toNat)
  zero : t.flag .z = decide ((t.getReg .b).toNat = 0)
  n : t.flag .n = decide (128 ≤ v.toNat)
  carry : t.flag .c = decide (255 < v.toNat + m)
  half : rep = false → t.flag .h = decide (255 < v.toNat + m)
  parity : rep = false → t.flag .pv = evenOnes (BitVec.ofNat 8 ((v.toNat + m) % 8) ^^^ t.getReg .b)
  y : rep = false → t.flag .y = (t.getReg .b).getLsbD 5
  x : rep = false → t.flag .x = (t.getReg .b).getLsbD 3

/-- INI, IND and one iteration of INIR, INDR (R301 to R304): the byte v comes from port BC, with B before it is
decremented, and goes to memory at HL; m is C stepped. -/
structure BlockInput (s : State) (d : Word) (m : Nat) (rep : Bool) (v : Byte) (t : State) : Prop where
  event : t.events = .input s.bc v :: s.events
  stored : t.read s.hl = v
  hl : t.hl = s.hl + d
  b : (t.getReg .b).toNat = ((s.getReg .b).toNat + 255) % 256
  flags : t.HasIoFlags v m rep
  pc : t.pc = if rep then s.pc else s.pc + 2
  frame : Touch.Frame
    { regs := [.b, .h, .l], flags := allFlags, stored := [s.hl], special := [.draws, .events] } s t

/-- OUTI, OUTD and one iteration of OTIR, OTDR (R305 to R308): the byte at HL goes to port BC, with B after it is
decremented; m is the new L. -/
structure BlockOutput (s : State) (d : Word) (rep : Bool) (t : State) : Prop where
  event : t.events = .output (concat (t.getReg .b) (s.getReg .c)) (s.read s.hl) :: s.events
  hl : t.hl = s.hl + d
  b : (t.getReg .b).toNat = ((s.getReg .b).toNat + 255) % 256
  flags : t.HasIoFlags (s.read s.hl) (t.getReg .l).toNat rep
  pc : t.pc = if rep then s.pc else s.pc + 2
  frame : Touch.Frame
    { regs := [.b, .h, .l], flags := allFlags, special := if rep then [.draws, .events] else [.events] } s t

/-- The flags of IN r,(C), IN (C), RRD and RLD (R140, R141): C is untouched. -/
structure State.HasSzp (t : State) (v : Byte) : Prop where
  szyx : t.HasSzyx v
  half : t.flag .h = false
  parity : t.flag .pv = evenOnes v
  addition : t.flag .n = false

end Sys2Proof.Machine
end

