-- ==== Sys2Proof/Certificates/Slice0/Obligations.lean ====
section
/-! DEFINITION. The statements for the provers. `Completes r p` says that the answer r is a next state of which p holds; each
effect's fields say the result, the flags, the PC and the frame (Safety.lean). A free value (a drawn flag, an input
byte) is left unconstrained by every statement. -/

open Sys2Proof Sys2Proof.Machine

/-! ## The whole machine -/

/-- Every step of every state answers a next state (R97, R400): no bytes, no data and no state make it fault, refuse or
get stuck, whatever MEM_SIZE and the other parameters are. -/
def Obligations.EveryStepAnswersNext : Prop := ∀ s : State, ∃ t, step s = .next t

/-- Decoding the encoding of any well-formed instruction, followed by any bytes, gives it back with every operand, and
the bytes after its length as the rest. -/
def Obligations.DecodeOfEncode : Prop :=
  ∀ (i : Instr) (rest : List Byte), i.wellFormed = true →
    decode (encode i ++ rest) = .ok (i, (encode i ++ rest).drop i.length)

/-- Any four bytes begin with an instruction (R8, R100), it is well formed, and its encoding is those bytes. -/
def Obligations.EveryFourBytesDecode : Prop :=
  ∀ b0 b1 b2 b3 : Byte, ∃ i, decodeBytes b0 b1 b2 b3 = .ok i ∧ i.wellFormed = true ∧
    encode i <+: [b0, b1, b2, b3]

/-- Every step keeps the invariant: MEM_SIZE is not 0 (R8), and the memory list stays canonical and within MEM_SIZE cells
(R51). The list itself and its canonical form (rising cell numbers, no entry 0) are the model's choice, log entry 10. -/
def Obligations.StepKeepsInv : Prop := ∀ s t : State, s.Inv → step s = .next t → t.Inv

/-- The state at reset has the invariant, and so has every state a construction answers. The canonical form in the
invariant (rising cell numbers, no entry 0) is the model's choice, log entry 10. -/
def Obligations.ResetHasInv : Prop :=
  State.reset.Inv ∧ ∀ (p : Params) (t : State), construct p = .next t → t.Inv

/-- Exchanging the two banks and toggling ALT before a step commutes with the step (R23 to R25). That the other bank is
left alone is no part of this: OtherBankKept and BankExchanges say what happens to it. -/
def Obligations.StepCommutesWithBankSwap : Prop := ∀ s : State, step s.swapBanks = swapAnswer (step s)

/-- No step changes ALT (R26) or a parameter. -/
def Obligations.StepKeepsAltAndParams : Prop :=
  ∀ s : State, Completes (step s) fun t => t.alt = s.alt ∧ t.params = s.params

/-- Only EX AF,AF' and EXX change the other bank: every other well-formed instruction leaves it as it was (R24, R147). -/
def Obligations.OtherBankKept : Prop :=
  ∀ (i : Instr) (s : State), i.wellFormed = true → i.ruleOf ≠ .exAfAf → i.ruleOf ≠ .exx →
    Completes (exec i s) fun t => t.other = s.other

/-- The special cells change only by the instructions that R30, R32, R33, R35, R39 and R56 name: I, R (beside bumpR),
HALTED, IFF1, IFF2, IM, SP, the port events and the memory. -/
def Obligations.OnlyNamedWriters : Prop :=
  ∀ (i : Instr) (s : State), i.wellFormed = true → Completes (exec i s) fun t =>
    (i ≠ .ldIA → t.i = s.i) ∧
    (i ≠ .ldRefreshA → t.r = s.r) ∧
    (i.ruleOf ≠ .halt → t.halted = s.halted) ∧
    (i.ruleOf ≠ .di → i.ruleOf ≠ .ei → i ≠ .reti → (∀ y, i ≠ .retn y) → t.iff1 = s.iff1) ∧
    (i.ruleOf ≠ .di → i.ruleOf ≠ .ei → t.iff2 = s.iff2) ∧
    ((∀ u, i ≠ .im0 u ∧ i ≠ .im0Star u ∧ i ≠ .im1 u ∧ i ≠ .im2 u) → t.im = s.im) ∧
    (i.ruleOf.writesSp = false → t.sp = s.sp) ∧
    (i.ruleOf.usesPort = false → t.events = s.events) ∧
    (i.ruleOf.stores = false → t.mem = s.mem)

/-- The default PC update (R95): every well-formed instruction without a PC rule of its own takes PC to the address after
its last byte, mod 2^16. -/
def Obligations.PcAdvancesByLength : Prop :=
  ∀ (i : Instr) (s : State), i.wellFormed = true → i.ruleOf.setsPc = false →
    Completes (exec i s) fun t => t.pc.toNat = (s.pc.toNat + i.length) % 65536

/-- R's low seven bits count the opcode fetches of each executed instruction and bit 7 is kept (R31, R96): one for an
unprefixed instruction and for a prefix consumed as a no-op, two else. LD R,A (ED 4F) leaves R equal to A. -/
def Obligations.RefreshCountsFetches : Prop :=
  ∀ s : State, s.halted = false →
    let b0 := s.read s.pc
    let b1 := s.read (s.pc + 1)
    let k := if b0 = 0xCB ∨ b0 = 0xED then 2
      else if b0 = 0xDD ∨ b0 = 0xFD then (if b1 = 0xDD ∨ b1 = 0xED ∨ b1 = 0xFD then 1 else 2)
      else 1
    Completes (step s) fun t =>
      (b0 = 0xED ∧ b1 = 0x4F → t.r = s.getReg .a) ∧
      (¬(b0 = 0xED ∧ b1 = 0x4F) →
        t.r.getLsbD 7 = s.r.getLsbD 7 ∧ t.r.toNat % 128 = (s.r.toNat + k) % 128)

/-- A halted step changes nothing (R81, R32). -/
def Obligations.HaltedStepDoesNothing : Prop := ∀ s : State, s.halted = true → step s = .next s

/-- When the bytes at PC decode to i, the step is i's meaning on the state with R counted by i's opcode fetches (R83). -/
def Obligations.StepRunsDecodedInstruction : Prop :=
  ∀ (s : State) (i : Instr), s.halted = false →
    decodeBytes (s.read s.pc) (s.read (s.pc + 1)) (s.read (s.pc + 2)) (s.read (s.pc + 3)) = .ok i →
    step s = exec i (s.bumpR i.m1Count)

/-- Words written out from the encodings of the rules decode to the instructions they stand for: at least one of each
format of R75 and of each table. -/
def Obligations.WordsDecodeAsWritten : Prop :=
  decodeBytes 0x21 0x34 0x12 0 = .ok (.ldRpNn .hl 0x1234) ∧
  decodeBytes 0x76 0 0 0 = .ok .halt ∧
  decodeBytes 0x3E 0x42 0 0 = .ok (.ldRN (.reg .a) 0x42) ∧
  decodeBytes 0x30 0x05 0 0 = .ok (.jrCc .nc 0x05) ∧
  decodeBytes 0x9E 0 0 0 = .ok (.sbcAR .atHL) ∧
  decodeBytes 0xDA 0xCD 0xAB 0 = .ok (.jpCcNn .c 0xABCD) ∧
  decodeBytes 0xCB 0x7E 0 0 = .ok (.bitAtHl 7) ∧
  decodeBytes 0xED 0x5B 0x00 0x80 = .ok (.ldRpAtNn .de 0x8000) ∧
  decodeBytes 0xED 0xB0 0 0 = .ok .ldir ∧
  decodeBytes 0xDD 0x66 0x02 0 = .ok (.ldRAtIxd .ix .h 0x02) ∧
  decodeBytes 0xDD 0x26 0xAB 0 = .ok (.ldIxpN .ix .high 0xAB) ∧
  decodeBytes 0xFD 0x21 0x34 0x12 = .ok (.ldIxNn .iy 0x1234) ∧
  decodeBytes 0xDD 0x36 0xFE 0x55 = .ok (.ldAtIxdN .ix 0xFE 0x55) ∧
  decodeBytes 0xFD 0x7C 0 0 = .ok (.ldRIxp .iy .a .high) ∧
  decodeBytes 0xFD 0xCB 0x02 0xC6 = .ok (.setAtIxd .iy 0x02 0 none) ∧
  decodeBytes 0xDD 0xFD 0x21 0 = .ok (.xyThenXy .ix .iy) ∧
  decodeBytes 0xDD 0x41 0 0 = .ok (.xyFallThrough .ix (.ldRR .b .c))

/-- The values that the spec gives for reset: every cell, every memory byte and every flag 0, Running, MEM_SIZE 65535
(R38, R431, R7). -/
def Obligations.ResetValues : Prop :=
  let s := State.reset
  (∀ r, s.prim.get r = 0 ∧ s.shad.get r = 0) ∧ s.prim.f = 0 ∧ s.shad.f = 0 ∧ s.i = 0 ∧ s.r = 0 ∧
    s.ix = 0 ∧ s.iy = 0 ∧ s.sp = 0 ∧ s.pc = 0 ∧ s.alt = false ∧ s.halted = false ∧ s.iff1 = false ∧
    s.iff2 = false ∧ s.im = .im0 ∧ (∀ a, s.read a = 0) ∧ s.params.memSize = 65535

/-- Construction with a memory size of 0 is refused, and with any other it answers a state with that size (R8). -/
def Obligations.ConstructionRefusesZeroSize : Prop :=
  ∀ p : Params,
    (p.memSize = 0 → construct p = .refused .invalidConfiguration) ∧
    (p.memSize ≠ 0 → Completes (construct p) fun t => t.params = p ∧ t.pc = 0 ∧ ∀ a, t.read a = 0)

/-- The explicit reset (R430): every cell 0 and Running as after construction, the parameters kept, the memory cleared
when RESET_CLEARS_MEMORY is true and kept when it is false. -/
def Obligations.ExplicitReset : Prop :=
  ∀ s : State,
    let t := s.explicitReset
    (∀ r, t.prim.get r = 0 ∧ t.shad.get r = 0) ∧ t.prim.f = 0 ∧ t.shad.f = 0 ∧ t.i = 0 ∧ t.r = 0 ∧
      t.ix = 0 ∧ t.iy = 0 ∧ t.sp = 0 ∧ t.pc = 0 ∧ t.alt = false ∧ t.halted = false ∧ t.iff1 = false ∧
      t.iff2 = false ∧ t.im = .im0 ∧ t.params = s.params ∧
      ∀ a, t.read a = if s.params.resetClearsMemory then 0 else s.read a

/-- The host's names (R27): a cell written by a name reads back by it; an active name reaches the shadow cell exactly
when ALT is set; a shadow name reaches the shadow cell whatever ALT is. -/
def Obligations.HostNamesReachCells : Prop :=
  ∀ (s : State) (v : Byte),
    (∀ c, (s.hostWrite c v).hostRead c = v) ∧
    (∀ k, (s.hostWrite (.active k) v).shad.cell k = if s.alt then v else s.shad.cell k) ∧
    (∀ k, (s.hostWrite (.active k) v).prim.cell k = if s.alt then s.prim.cell k else v) ∧
    (∀ k, (s.hostWrite (.shadow k) v).shad.cell k = v ∧ (s.hostWrite (.shadow k) v).prim = s.prim)

/-- A byte stored at nn is what a load from mm reads exactly when the two addresses are equal modulo MEM_SIZE, and any
other address reads as before (R51 to R53). -/
def Obligations.StoreThenLoad : Prop :=
  ∀ (s : State) (nn mm : Word), Completes (exec (.ldAtNnA nn) s) fun t =>
    Completes (exec (.ldAAtNn mm) t) fun u =>
      u.getReg .a =
        if nn.toNat % s.params.memSize.toNat = mm.toNat % s.params.memSize.toNat then s.getReg .a else s.read mm

/-- PUSH of a pair and POP of the same pair restore it and SP, when the stack's two addresses select two cells. -/
def Obligations.PushThenPop : Prop :=
  ∀ (p : StackPair) (s : State), s.cell (s.sp - 2) ≠ s.cell (s.sp - 1) →
    Completes (exec (.pushRp2 p) s) fun t =>
      Completes (exec (.popRp2 p) t) fun u => u.view = s.view ∧ u.sp = s.sp

/-- The prefix fall-through (R98, R359, R399): an unprefixed instruction that DD or FD leaves unchanged is run at the
address after the prefix, so that a HALT stays at its 0x76 byte there. -/
def Obligations.FallThroughRunsAtNextByte : Prop :=
  (∀ (x : Idx) (inner : Instr) (s : State), inner.fallsThrough = true →
    ∃ t, exec (.xyFallThrough x inner) s = .next t ∧ exec inner (s.jump (s.pc + 1)) = .next t) ∧
  ∀ (x : Idx) (s : State), Completes (exec (.xyFallThrough x .halt) s) fun t =>
    t.halted = true ∧ t.pc = s.pc + 1

/-! ## 8-bit arithmetic and logic -/

/-- ADD and ADC in all their operand forms (R117). -/
def Obligations.AddAndAdc : Prop :=
  ∀ s : State,
    (∀ z, Completes (exec (.addAR z) s) (Added s ((s.target z).value s) false 1)) ∧
    (∀ n, Completes (exec (.addAN n) s) (Added s n false 2)) ∧
    (∀ x w, Completes (exec (.addAIxp x w) s) (Added s (s.getHalf x w) false 2)) ∧
    (∀ x d, Completes (exec (.addAAtIxd x d) s) (Added s (s.read (s.idxAddr x d)) false 3)) ∧
    (∀ z, Completes (exec (.adcAR z) s) (Added s ((s.target z).value s) (s.flag .c) 1)) ∧
    (∀ n, Completes (exec (.adcAN n) s) (Added s n (s.flag .c) 2)) ∧
    (∀ x w, Completes (exec (.adcAIxp x w) s) (Added s (s.getHalf x w) (s.flag .c) 2)) ∧
    (∀ x d, Completes (exec (.adcAAtIxd x d) s) (Added s (s.read (s.idxAddr x d)) (s.flag .c) 3))

/-- SUB and SBC in all their operand forms (R118). -/
def Obligations.SubAndSbc : Prop :=
  ∀ s : State,
    (∀ z, Completes (exec (.subR z) s) (Subtracted s ((s.target z).value s) false 1)) ∧
    (∀ n, Completes (exec (.subN n) s) (Subtracted s n false 2)) ∧
    (∀ x w, Completes (exec (.subIxp x w) s) (Subtracted s (s.getHalf x w) false 2)) ∧
    (∀ x d, Completes (exec (.subAtIxd x d) s) (Subtracted s (s.read (s.idxAddr x d)) false 3)) ∧
    (∀ z, Completes (exec (.sbcAR z) s) (Subtracted s ((s.target z).value s) (s.flag .c) 1)) ∧
    (∀ n, Completes (exec (.sbcAN n) s) (Subtracted s n (s.flag .c) 2)) ∧
    (∀ x w, Completes (exec (.sbcAIxp x w) s) (Subtracted s (s.getHalf x w) (s.flag .c) 2)) ∧
    (∀ x d, Completes (exec (.sbcAAtIxd x d) s) (Subtracted s (s.read (s.idxAddr x d)) (s.flag .c) 3))

/-- AND, XOR and OR in all their operand forms (R120, R121, R122). -/
def Obligations.AndXorOr : Prop :=
  ∀ s : State,
    let a := s.getReg .a
    (∀ z, Completes (exec (.andR z) s) (Logical s (a &&& (s.target z).value s) true 1)) ∧
    (∀ n, Completes (exec (.andN n) s) (Logical s (a &&& n) true 2)) ∧
    (∀ x w, Completes (exec (.andIxp x w) s) (Logical s (a &&& s.getHalf x w) true 2)) ∧
    (∀ x d, Completes (exec (.andAtIxd x d) s) (Logical s (a &&& s.read (s.idxAddr x d)) true 3)) ∧
    (∀ z, Completes (exec (.xorR z) s) (Logical s (a ^^^ (s.target z).value s) false 1)) ∧
    (∀ n, Completes (exec (.xorN n) s) (Logical s (a ^^^ n) false 2)) ∧
    (∀ x w, Completes (exec (.xorIxp x w) s) (Logical s (a ^^^ s.getHalf x w) false 2)) ∧
    (∀ x d, Completes (exec (.xorAtIxd x d) s) (Logical s (a ^^^ s.read (s.idxAddr x d)) false 3)) ∧
    (∀ z, Completes (exec (.orR z) s) (Logical s (a ||| (s.target z).value s) false 1)) ∧
    (∀ n, Completes (exec (.orN n) s) (Logical s (a ||| n) false 2)) ∧
    (∀ x w, Completes (exec (.orIxp x w) s) (Logical s (a ||| s.getHalf x w) false 2)) ∧
    (∀ x d, Completes (exec (.orAtIxd x d) s) (Logical s (a ||| s.read (s.idxAddr x d)) false 3))

/-- CP in all its operand forms (R119). -/
def Obligations.Compare : Prop :=
  ∀ s : State,
    (∀ z, Completes (exec (.cpR z) s) (Compared s ((s.target z).value s) 1)) ∧
    (∀ n, Completes (exec (.cpN n) s) (Compared s n 2)) ∧
    (∀ x w, Completes (exec (.cpIxp x w) s) (Compared s (s.getHalf x w) 2)) ∧
    (∀ x d, Completes (exec (.cpAtIxd x d) s) (Compared s (s.read (s.idxAddr x d)) 3))

/-- INC and DEC of a byte in all their operand forms (R123, R124). -/
def Obligations.IncDecByte : Prop :=
  ∀ s : State,
    (∀ y, Completes (exec (.incR y) s) (Incremented s (s.target y) 1)) ∧
    (∀ x w, Completes (exec (.incIxp x w) s) (Incremented s (.half x w) 2)) ∧
    (∀ x d, Completes (exec (.incAtIxd x d) s) (Incremented s (.mem (s.idxAddr x d)) 3)) ∧
    (∀ y, Completes (exec (.decR y) s) (Decremented s (s.target y) 1)) ∧
    (∀ x w, Completes (exec (.decIxp x w) s) (Decremented s (.half x w) 2)) ∧
    (∀ x d, Completes (exec (.decAtIxd x d) s) (Decremented s (.mem (s.idxAddr x d)) 3))

/-- DAA (R131): the corrections, the flags, and N and everything else kept. -/
def Obligations.DecimalAdjust : Prop :=
  ∀ s : State,
    let a := (s.getReg .a).toNat
    let low := s.flag .h || decide (9 < a % 16)
    let high := s.flag .c || decide (0x99 < a)
    let corr := (if low then 6 else 0) + (if high then 0x60 else 0)
    Completes (exec .daa s) fun t =>
      (t.getReg .a).toNat = (if s.flag .n then (a + 256 - corr) % 256 else (a + corr) % 256) ∧
      t.HasSzyx (t.getReg .a) ∧
      t.flag .h = (if s.flag .n then s.flag .h && decide (a % 16 < 6) else decide (9 < a % 16)) ∧
      t.flag .pv = evenOnes (t.getReg .a) ∧ t.flag .c = high ∧ t.pc = s.pc + 1 ∧
      Touch.Frame { regs := [.a], flags := [.s, .z, .y, .h, .x, .pv, .c] } s t

/-- Decimal arithmetic: with A and the operand two-digit BCD numbers x and y, ADC then DAA leaves the BCD of x + y + C
modulo 100 and its carry, and SBC then DAA the BCD of x - y - C modulo 100 and its borrow. -/
def Obligations.DecimalAdjustAddsAndSubtracts : Prop :=
  ∀ (s : State) (x y : Nat), x < 100 → y < 100 →
    s.getReg .a = BitVec.ofNat 8 (x / 10 * 16 + x % 10) →
    let v : Byte := BitVec.ofNat 8 (y / 10 * 16 + y % 10)
    let c := (s.flag .c).toNat
    (Completes (exec (.adcAN v) s) fun t => Completes (exec .daa t) fun u =>
      (u.getReg .a).toNat = (x + y + c) % 100 / 10 * 16 + (x + y + c) % 10 ∧
        u.flag .c = decide (100 ≤ x + y + c)) ∧
    (Completes (exec (.sbcAN v) s) fun t => Completes (exec .daa t) fun u =>
      (u.getReg .a).toNat = (x + 100 - y - c) % 100 / 10 * 16 + (x + 100 - y - c) % 10 ∧
        u.flag .c = decide (x < y + c))

/-- NEG (R135) and CPL (R132). -/
def Obligations.NegateAndComplement : Prop :=
  ∀ s : State,
    let a := (s.getReg .a).toNat
    (∀ y, Completes (exec (.neg y) s) fun t =>
      (t.getReg .a).toNat = (256 - a) % 256 ∧ t.HasSzyx (t.getReg .a) ∧ t.flag .h = decide (a % 16 ≠ 0) ∧
        t.flag .pv = decide (a = 128) ∧ t.flag .n = true ∧ t.flag .c = decide (a ≠ 0) ∧ t.pc = s.pc + 2 ∧
        Touch.Frame { regs := [.a], flags := allFlags } s t) ∧
    (Completes (exec .cpl s) fun t =>
      (t.getReg .a).toNat = 255 - a ∧ t.flag .y = (t.getReg .a).getLsbD 5 ∧
        t.flag .x = (t.getReg .a).getLsbD 3 ∧ t.flag .h = true ∧ t.flag .n = true ∧ t.pc = s.pc + 1 ∧
        Touch.Frame { regs := [.a], flags := [.y, .h, .x, .n] } s t)

/-- SCF (R133) and CCF (R134), for both values of SCF_CCF_XY. -/
def Obligations.SetAndComplementCarry : Prop :=
  ∀ s : State,
    let y := (s.getReg .a).getLsbD 5 || (decide (s.params.scfCcfXY = .aOrF) && s.flag .y)
    let x := (s.getReg .a).getLsbD 3 || (decide (s.params.scfCcfXY = .aOrF) && s.flag .x)
    (Completes (exec .scf s) fun t =>
      t.flag .c = true ∧ t.flag .h = false ∧ t.flag .n = false ∧ t.flag .y = y ∧ t.flag .x = x ∧
        t.pc = s.pc + 1 ∧ Touch.Frame { flags := [.y, .h, .x, .n, .c] } s t) ∧
    (Completes (exec .ccf s) fun t =>
      t.flag .c = !s.flag .c ∧ t.flag .h = s.flag .c ∧ t.flag .n = false ∧ t.flag .y = y ∧ t.flag .x = x ∧
        t.pc = s.pc + 1 ∧ Touch.Frame { flags := [.y, .h, .x, .n, .c] } s t)

/-! ## Loads, exchanges and the stack -/

/-- Every byte load and store: the destination holds the source byte and no flag changes. -/
def Obligations.ByteLoads : Prop :=
  ∀ s : State,
    let a := s.getReg .a
    Completes (exec .ldAtBcA s) (Loaded s (.mem s.bc) a 1) ∧
    Completes (exec .ldAtDeA s) (Loaded s (.mem s.de) a 1) ∧
    Completes (exec .ldAAtBc s) (Loaded s (.reg .a) (s.read s.bc) 1) ∧
    Completes (exec .ldAAtDe s) (Loaded s (.reg .a) (s.read s.de) 1) ∧
    (∀ nn, Completes (exec (.ldAtNnA nn) s) (Loaded s (.mem nn) a 3)) ∧
    (∀ nn, Completes (exec (.ldAAtNn nn) s) (Loaded s (.reg .a) (s.read nn) 3)) ∧
    (∀ y n, Completes (exec (.ldRN y n) s) (Loaded s (s.target y) n 2)) ∧
    (∀ dst src, Completes (exec (.ldRR dst src) s) (Loaded s (.reg dst) (s.getReg src) 1)) ∧
    (∀ dst, Completes (exec (.ldRAtHl dst) s) (Loaded s (.reg dst) (s.read s.hl) 1)) ∧
    (∀ src, Completes (exec (.ldAtHlR src) s) (Loaded s (.mem s.hl) (s.getReg src) 1)) ∧
    (∀ x w n, Completes (exec (.ldIxpN x w n) s) (Loaded s (.half x w) n 3)) ∧
    (∀ x d n, Completes (exec (.ldAtIxdN x d n) s) (Loaded s (.mem (s.idxAddr x d)) n 4)) ∧
    (∀ x r d, Completes (exec (.ldRAtIxd x r d) s) (Loaded s (.reg r) (s.read (s.idxAddr x d)) 3)) ∧
    (∀ x r d, Completes (exec (.ldAtIxdR x r d) s) (Loaded s (.mem (s.idxAddr x d)) (s.getReg r) 3)) ∧
    (∀ x r w, Completes (exec (.ldRIxp x r w) s) (Loaded s (.reg r) (s.getHalf x w) 2)) ∧
    (∀ x w r, Completes (exec (.ldIxpR x w r) s) (Loaded s (.half x w) (s.getReg r) 2)) ∧
    (∀ x w v, Completes (exec (.ldIxpIxq x w v) s) (Loaded s (.half x w) (s.getHalf x v) 2))

/-- Every word load and store: little-endian in memory (R54, R55), no flag changes. -/
def Obligations.WordLoads : Prop :=
  ∀ s : State,
    (∀ p nn, Completes (exec (.ldRpNn p nn) s) (WideLoaded s (.pair p) nn 3)) ∧
    (∀ nn, Completes (exec (.ldAtNnHl nn) s) (WideLoaded s (.mem nn) s.hl 3)) ∧
    (∀ nn, Completes (exec (.ldHlAtNn nn) s)
      (WideLoaded s (.pair .hl) (concat (s.read (nn + 1)) (s.read nn)) 3)) ∧
    (∀ p nn, Completes (exec (.ldAtNnRp p nn) s) (WideLoaded s (.mem nn) (s.getPair p) 4)) ∧
    (∀ p nn, Completes (exec (.ldRpAtNn p nn) s)
      (WideLoaded s (.pair p) (concat (s.read (nn + 1)) (s.read nn)) 4)) ∧
    Completes (exec .ldSpHl s) (WideLoaded s (.pair .sp) s.hl 1) ∧
    (∀ x nn, Completes (exec (.ldIxNn x nn) s) (WideLoaded s (.index x) nn 4)) ∧
    (∀ x nn, Completes (exec (.ldAtNnIx x nn) s) (WideLoaded s (.mem nn) (s.getIdx x) 4)) ∧
    (∀ x nn, Completes (exec (.ldIxAtNn x nn) s)
      (WideLoaded s (.index x) (concat (s.read (nn + 1)) (s.read nn)) 4)) ∧
    (∀ x, Completes (exec (.ldSpIx x) s) (WideLoaded s (.pair .sp) (s.getIdx x) 2))

/-- LD I,A, LD R,A, LD A,I and LD A,R (R286 to R289, R136): PV takes IFF2. -/
def Obligations.InterruptAndRefreshLoads : Prop :=
  ∀ s : State,
    (Completes (exec .ldIA s) fun t => t.i = s.getReg .a ∧ Controlled s [.i] (s.pc + 2) t) ∧
    (Completes (exec .ldRefreshA s) fun t => t.r = s.getReg .a ∧ Controlled s [.r] (s.pc + 2) t) ∧
    (Completes (exec .ldAI s) fun t =>
      t.getReg .a = s.i ∧ t.HasSzyx s.i ∧ t.flag .h = false ∧ t.flag .pv = s.iff2 ∧ t.flag .n = false ∧
        t.pc = s.pc + 2 ∧ Touch.Frame { regs := [.a], flags := notC } s t) ∧
    (Completes (exec .ldARefresh s) fun t =>
      t.getReg .a = s.r ∧ t.HasSzyx s.r ∧ t.flag .h = false ∧ t.flag .pv = s.iff2 ∧ t.flag .n = false ∧
        t.pc = s.pc + 2 ∧ Touch.Frame { regs := [.a], flags := notC } s t)

/-- EX AF,AF' and EXX (R152, R217): contents are exchanged with the other bank. -/
def Obligations.BankExchanges : Prop :=
  ∀ s : State,
    (Completes (exec .exAfAf s) fun t =>
      t.getReg .a = s.other.a ∧ t.getF = s.other.f ∧ t.other.a = s.getReg .a ∧ t.other.f = s.getF ∧
        (∀ r, r ≠ .a → t.other.get r = s.other.get r) ∧ t.pc = s.pc + 1 ∧
        Touch.Frame { regs := [.a], flags := allFlags, special := [.other] } s t) ∧
    (Completes (exec .exx s) fun t =>
      (∀ r, r ≠ .a → t.getReg r = s.other.get r ∧ t.other.get r = s.getReg r) ∧
        t.other.a = s.other.a ∧ t.other.f = s.other.f ∧ t.pc = s.pc + 1 ∧
        Touch.Frame { regs := [.b, .c, .d, .e, .h, .l], special := [.other] } s t)

/-- EX DE,HL, EX (SP),HL and EX (SP),IX (R216, R215, R356): the old word at SP is read before the store. -/
def Obligations.WordExchanges : Prop :=
  ∀ s : State,
    (Completes (exec .exDeHl s) fun t =>
      t.de = s.hl ∧ t.hl = s.de ∧ t.pc = s.pc + 1 ∧ Touch.Frame { regs := [.d, .e, .h, .l] } s t) ∧
    (Completes (exec .exAtSpHl s) fun t =>
      t.hl = concat (s.read (s.sp + 1)) (s.read s.sp) ∧ (WideTarget.mem s.sp).Holds s.hl t ∧
        t.pc = s.pc + 1 ∧ Touch.Frame { regs := [.h, .l], stored := [s.sp, s.sp + 1] } s t) ∧
    (∀ x, Completes (exec (.exAtSpIx x) s) fun t =>
      t.getIdx x = concat (s.read (s.sp + 1)) (s.read s.sp) ∧ (WideTarget.mem s.sp).Holds (s.getIdx x) t ∧
        t.pc = s.pc + 2 ∧
        Touch.Frame { halves := [(x, .high), (x, .low)], stored := [s.sp, s.sp + 1] } s t)

/-- PUSH and POP of a pair and of an index register (R213, R214, R354, R355); POP AF writes all eight flags. -/
def Obligations.PushAndPop : Prop :=
  ∀ s : State,
    let top := concat (s.read (s.sp + 1)) (s.read s.sp)
    (∀ p, Completes (exec (.pushRp2 p) s) (Pushed s (s.getStackPair p) (s.pc + 1))) ∧
    (∀ x, Completes (exec (.pushIx x) s) (Pushed s (s.getIdx x) (s.pc + 2))) ∧
    (∀ p, Completes (exec (.popRp2 p) s) fun t =>
      t.getStackPair p = top ∧ t.sp = s.sp + 2 ∧ t.pc = s.pc + 1 ∧
        Touch.Frame { regs := p.regs, flags := if p = .af then allFlags else [], special := [.sp] } s t) ∧
    (∀ x, Completes (exec (.popIx x) s) fun t =>
      t.getIdx x = top ∧ t.sp = s.sp + 2 ∧ t.pc = s.pc + 2 ∧
        Touch.Frame { halves := [(x, .high), (x, .low)], special := [.sp] } s t)

/-! ## Control transfer -/

/-- RET, RET cc, RETN and RETI (R211, R212, R280, R281): the last two copy IFF2 to IFF1. -/
def Obligations.Returns : Prop :=
  ∀ s : State,
    Completes (exec .ret s) (Returned s []) ∧
    (∀ cc, (s.meets cc → Completes (exec (.retCc cc) s) (Returned s [])) ∧
      (¬s.meets cc → Completes (exec (.retCc cc) s) (Jumped s (s.pc + 1)))) ∧
    (∀ y, Completes (exec (.retn y) s) fun t => t.iff1 = s.iff2 ∧ Returned s [.iff1] t) ∧
    (Completes (exec .reti s) fun t => t.iff1 = s.iff2 ∧ Returned s [.iff1] t)

/-- CALL, CALL cc and RST (R222, R223, R224): the address after the instruction is pushed. -/
def Obligations.Calls : Prop :=
  ∀ s : State,
    (∀ nn, Completes (exec (.callNn nn) s) (Pushed s (s.pc + 3) nn)) ∧
    (∀ cc nn, (s.meets cc → Completes (exec (.callCcNn cc nn) s) (Pushed s (s.pc + 3) nn)) ∧
      (¬s.meets cc → Completes (exec (.callCcNn cc nn) s) (Jumped s (s.pc + 3)))) ∧
    (∀ y, Completes (exec (.rst y) s) (Pushed s (s.pc + 1) (BitVec.ofNat 16 (8 * y.toNat))))

/-- JP nn, JP cc,nn, JP (HL) and JP (IX) (R219, R220, R221, R357): nothing but PC changes. -/
def Obligations.AbsoluteJumps : Prop :=
  ∀ s : State,
    (∀ nn, Completes (exec (.jpNn nn) s) (Jumped s nn)) ∧
    (∀ cc nn, (s.meets cc → Completes (exec (.jpCcNn cc nn) s) (Jumped s nn)) ∧
      (¬s.meets cc → Completes (exec (.jpCcNn cc nn) s) (Jumped s (s.pc + 3)))) ∧
    Completes (exec .jpAtHl s) (Jumped s s.hl) ∧
    (∀ x, Completes (exec (.jpAtIx x) s) (Jumped s (s.getIdx x)))

/-- JR, JR cc and DJNZ (R175, R176, R177): DJNZ jumps unless B was 1, and writes no flag. -/
def Obligations.RelativeJumps : Prop :=
  ∀ (s : State) (e : Byte),
    Completes (exec (.jr e) s) (Jumped s (relativeTo s.pc e)) ∧
    (∀ cc, (s.meets cc → Completes (exec (.jrCc cc e) s) (Jumped s (relativeTo s.pc e))) ∧
      (¬s.meets cc → Completes (exec (.jrCc cc e) s) (Jumped s (s.pc + 2)))) ∧
    (Completes (exec (.djnz e) s) fun t =>
      (t.getReg .b).toNat = ((s.getReg .b).toNat + 255) % 256 ∧
        t.pc = (if (s.getReg .b).toNat = 1 then s.pc + 2 else relativeTo s.pc e) ∧
        Touch.Frame { regs := [.b] } s t)

/-- NOP, the undefined ED opcodes and the prefix no-ops (R150, R309, R360): only PC changes, by one byte, by two and by
one. -/
def Obligations.NoOperations : Prop :=
  ∀ s : State,
    Completes (exec .nop s) (Jumped s (s.pc + 1)) ∧
    (∀ u, Completes (exec (.nopEd00 u) s) (Jumped s (s.pc + 2))) ∧
    (∀ u, Completes (exec (.nopEd77 u) s) (Jumped s (s.pc + 2))) ∧
    (∀ u, Completes (exec (.nopEd80 u) s) (Jumped s (s.pc + 2))) ∧
    (∀ v w, Completes (exec (.nopEdA4 v w) s) (Jumped s (s.pc + 2))) ∧
    (∀ u, Completes (exec (.nopEdC0 u) s) (Jumped s (s.pc + 2))) ∧
    (∀ x u, Completes (exec (.xyThenXy x u) s) (Jumped s (s.pc + 1))) ∧
    (∀ x, Completes (exec (.xyThenEd x) s) (Jumped s (s.pc + 1)))

/-- HALT (R191): HALTED is set and PC stays at the opcode; every later step changes nothing. -/
def Obligations.HaltStays : Prop :=
  ∀ s : State, Completes (exec .halt s) fun t =>
    t.halted = true ∧ Controlled s [.halted] s.pc t ∧ step t = .next t

/-- DI, EI, IM 0, IM 1 and IM 2 (R227, R228, R282, R284, R285): the cells they write, and nothing else. -/
def Obligations.InterruptControl : Prop :=
  ∀ s : State,
    (Completes (exec .di s) fun t =>
      t.iff1 = false ∧ t.iff2 = false ∧ Controlled s [.iff1, .iff2] (s.pc + 1) t) ∧
    (Completes (exec .ei s) fun t =>
      t.iff1 = true ∧ t.iff2 = true ∧ Controlled s [.iff1, .iff2] (s.pc + 1) t) ∧
    (∀ u, Completes (exec (.im0 u) s) fun t => t.im = .im0 ∧ Controlled s [.im] (s.pc + 2) t) ∧
    (∀ u, Completes (exec (.im1 u) s) fun t => t.im = .im1 ∧ Controlled s [.im] (s.pc + 2) t) ∧
    (∀ u, Completes (exec (.im2 u) s) fun t => t.im = .im2 ∧ Controlled s [.im] (s.pc + 2) t)

/-- IM 0* (R283): IM is drawn from 0 and 1; nothing says which. -/
def Obligations.UndefinedInterruptMode : Prop :=
  ∀ (s : State) (u : BitVec 1), Completes (exec (.im0Star u) s) fun t =>
    (t.im = .im0 ∨ t.im = .im1) ∧ Controlled s [.im, .draws] (s.pc + 2) t

/-! ## Rotates, shifts and bits -/

/-- The CB rotates and shifts (R129). -/
def Obligations.RotatesAndShifts : Prop :=
  ∀ (s : State) (z : Loc8),
    Completes (exec (.rlcR z) s) (Rotated .rlc s (s.target z) none 2) ∧
    Completes (exec (.rrcR z) s) (Rotated .rrc s (s.target z) none 2) ∧
    Completes (exec (.rlR z) s) (Rotated .rl s (s.target z) none 2) ∧
    Completes (exec (.rrR z) s) (Rotated .rr s (s.target z) none 2) ∧
    Completes (exec (.slaR z) s) (Rotated .sla s (s.target z) none 2) ∧
    Completes (exec (.sraR z) s) (Rotated .sra s (s.target z) none 2) ∧
    Completes (exec (.sllR z) s) (Rotated .sll s (s.target z) none 2) ∧
    Completes (exec (.srlR z) s) (Rotated .srl s (s.target z) none 2)

/-- The DDCB and FDCB rotates and shifts, with and without a copy register (R129, R380). -/
def Obligations.IndexedRotatesAndShifts : Prop :=
  ∀ (s : State) (x : Idx) (d : Byte) (copy : Option Reg8),
    let g := Target.mem (s.idxAddr x d)
    Completes (exec (.rlcAtIxd x d copy) s) (Rotated .rlc s g copy 4) ∧
    Completes (exec (.rrcAtIxd x d copy) s) (Rotated .rrc s g copy 4) ∧
    Completes (exec (.rlAtIxd x d copy) s) (Rotated .rl s g copy 4) ∧
    Completes (exec (.rrAtIxd x d copy) s) (Rotated .rr s g copy 4) ∧
    Completes (exec (.slaAtIxd x d copy) s) (Rotated .sla s g copy 4) ∧
    Completes (exec (.sraAtIxd x d copy) s) (Rotated .sra s g copy 4) ∧
    Completes (exec (.sllAtIxd x d copy) s) (Rotated .sll s g copy 4) ∧
    Completes (exec (.srlAtIxd x d copy) s) (Rotated .srl s g copy 4)

/-- The accumulator rotates (R128): S, Z and PV are kept. -/
def Obligations.AccumulatorRotates : Prop :=
  ∀ s : State,
    Completes (exec .rlca s) (AccRotated .rlc s) ∧
    Completes (exec .rrca s) (AccRotated .rrc s) ∧
    Completes (exec .rla s) (AccRotated .rl s) ∧
    Completes (exec .rra s) (AccRotated .rr s)

/-- BIT in its three forms (R130): Y and X come from the register, are free for (HL) (R146), and come from the high byte
of the address for (IX+d). -/
def Obligations.BitTests : Prop :=
  ∀ (s : State) (b : BitVec 3),
    (∀ r, Completes (exec (.bitR b r) s) fun t =>
      BitTested s b (s.getReg r) 2 [] t ∧ t.flag .y = (s.getReg r).getLsbD 5 ∧
        t.flag .x = (s.getReg r).getLsbD 3) ∧
    Completes (exec (.bitAtHl b) s) (BitTested s b (s.read s.hl) 2 [.draws]) ∧
    (∀ x d z, Completes (exec (.bitAtIxd x d b z) s) fun t =>
      BitTested s b (s.read (s.idxAddr x d)) 4 [] t ∧ t.flag .y = (s.idxAddr x d).getLsbD 13 ∧
        t.flag .x = (s.idxAddr x d).getLsbD 11)

/-- RES and SET in all their forms (R261, R262, R390, R391). -/
def Obligations.BitResetAndSet : Prop :=
  ∀ (s : State) (b : BitVec 3),
    (∀ z, Completes (exec (.resR b z) s) (BitWritten s (s.target z) b false none 2)) ∧
    (∀ z, Completes (exec (.setR b z) s) (BitWritten s (s.target z) b true none 2)) ∧
    (∀ x d copy, Completes (exec (.resAtIxd x d b copy) s)
      (BitWritten s (.mem (s.idxAddr x d)) b false copy 4)) ∧
    (∀ x d copy, Completes (exec (.setAtIxd x d b copy) s)
      (BitWritten s (.mem (s.idxAddr x d)) b true copy 4))

/-- RRD and RLD (R290, R291, R140): the three nibbles of A and the byte at HL move round. -/
def Obligations.NibbleRotates : Prop :=
  ∀ s : State,
    let a := (s.getReg .a).toNat
    let v := (s.read s.hl).toNat
    (Completes (exec .rrd s) fun t =>
      (t.getReg .a).toNat = a / 16 * 16 + v % 16 ∧ (t.read s.hl).toNat = a % 16 * 16 + v / 16 ∧
        t.HasSzp (t.getReg .a) ∧ t.pc = s.pc + 2 ∧
        Touch.Frame { regs := [.a], flags := notC, stored := [s.hl] } s t) ∧
    (Completes (exec .rld s) fun t =>
      (t.getReg .a).toNat = a / 16 * 16 + v / 16 ∧ (t.read s.hl).toNat = v % 16 * 16 + a % 16 ∧
        t.HasSzp (t.getReg .a) ∧ t.pc = s.pc + 2 ∧
        Touch.Frame { regs := [.a], flags := notC, stored := [s.hl] } s t)

/-! ## 16-bit arithmetic -/

/-- ADD HL,rp and ADD IX,rp (R125). -/
def Obligations.WordAdd : Prop :=
  ∀ s : State,
    (∀ p, Completes (exec (.addHlRp p) s) fun t => WideAdded s (.pair .hl) t.hl s.hl (s.getPair p) 1 t) ∧
    (∀ x p, Completes (exec (.addIxRp x p) s) fun t =>
      WideAdded s (.index x) (t.getIdx x) (s.getIdx x) (s.getIndexPair x p) 2 t)

/-- ADC HL,rp and SBC HL,rp (R126, R127). -/
def Obligations.WordAdcAndSbc : Prop :=
  ∀ (s : State) (p : Pair),
    Completes (exec (.adcHlRp p) s) (WideCarried s (s.getPair p)) ∧
    Completes (exec (.sbcHlRp p) s) (WideBorrowed s (s.getPair p))

/-- INC and DEC of a pair and of an index register: modulo 2^16, no flag (R143). -/
def Obligations.WordIncDec : Prop :=
  ∀ s : State,
    (∀ p, Completes (exec (.incRp p) s)
      (WideLoaded s (.pair p) (BitVec.ofNat 16 ((s.getPair p).toNat + 1)) 1)) ∧
    (∀ p, Completes (exec (.decRp p) s)
      (WideLoaded s (.pair p) (BitVec.ofNat 16 ((s.getPair p).toNat + 65535)) 1)) ∧
    (∀ x, Completes (exec (.incIx x) s)
      (WideLoaded s (.index x) (BitVec.ofNat 16 ((s.getIdx x).toNat + 1)) 2)) ∧
    (∀ x, Completes (exec (.decIx x) s)
      (WideLoaded s (.index x) (BitVec.ofNat 16 ((s.getIdx x).toNat + 65535)) 2))

/-! ## Ports and block instructions -/

/-- OUT (n),A, OUT (C),r and OUT (C),0: one output event at the rule's port, nothing else (R56, R225, R273, R274). -/
def Obligations.PortOutputs : Prop :=
  ∀ s : State,
    (∀ n, Completes (exec (.outAtNA n) s) fun t =>
      t.events = .output (concat (s.getReg .a) n) (s.getReg .a) :: s.events ∧
        Controlled s [.events] (s.pc + 2) t) ∧
    (∀ r, Completes (exec (.outAtCR r) s) fun t =>
      t.events = .output (concat (s.getReg .b) (s.getReg .c)) (s.getReg r) :: s.events ∧
        Controlled s [.events] (s.pc + 2) t) ∧
    (Completes (exec .outAtC0 s) fun t =>
      t.events = .output (concat (s.getReg .b) (s.getReg .c)) s.params.outC0Value :: s.events ∧
        Controlled s [.events] (s.pc + 2) t)

/-- IN A,(n), IN r,(C) and IN (C) (R226, R271, R272, R141): some byte v comes from the rule's port; IN A,(n) writes no
flag. -/
def Obligations.PortInputs : Prop :=
  ∀ s : State,
    (∀ n, Completes (exec (.inAAtN n) s) fun t => ∃ v,
      t.events = .input (concat (s.getReg .a) n) v :: s.events ∧ t.getReg .a = v ∧ t.pc = s.pc + 2 ∧
        Touch.Frame { regs := [.a], special := [.draws, .events] } s t) ∧
    (∀ r, Completes (exec (.inRAtC r) s) fun t => ∃ v,
      t.events = .input (concat (s.getReg .b) (s.getReg .c)) v :: s.events ∧ t.getReg r = v ∧
        t.HasSzp v ∧ t.pc = s.pc + 2 ∧
        Touch.Frame { regs := [r], flags := notC, special := [.draws, .events] } s t) ∧
    (Completes (exec .inAtC s) fun t => ∃ v,
      t.events = .input (concat (s.getReg .b) (s.getReg .c)) v :: s.events ∧ t.HasSzp v ∧
        t.pc = s.pc + 2 ∧ Touch.Frame { flags := notC, special := [.draws, .events] } s t)

/-- LDI, LDD, LDIR and LDDR (R137): the repeating forms repeat unless BC was 1. -/
def Obligations.BlockLoads : Prop :=
  ∀ s : State,
    let rep := decide (s.bc.toNat ≠ 1)
    Completes (exec .ldi s) (BlockMoved s 1 false) ∧
    Completes (exec .ldd s) (BlockMoved s (-1) false) ∧
    Completes (exec .ldir s) (BlockMoved s 1 rep) ∧
    Completes (exec .lddr s) (BlockMoved s (-1) rep)

/-- CPI, CPD, CPIR and CPDR (R138): the repeating forms repeat unless BC was 1 or the byte equals A. -/
def Obligations.BlockCompares : Prop :=
  ∀ s : State,
    let rep := decide (s.bc.toNat ≠ 1 ∧ s.getReg .a ≠ s.read s.hl)
    Completes (exec .cpi s) (BlockCompared s 1 false) ∧
    Completes (exec .cpd s) (BlockCompared s (-1) false) ∧
    Completes (exec .cpir s) (BlockCompared s 1 rep) ∧
    Completes (exec .cpdr s) (BlockCompared s (-1) rep)

/-- INI, IND, INIR and INDR (R139): the repeating forms repeat unless B was 1. -/
def Obligations.BlockInputs : Prop :=
  ∀ s : State,
    let rep := decide ((s.getReg .b).toNat ≠ 1)
    let up := ((s.getReg .c).toNat + 1) % 256
    let down := ((s.getReg .c).toNat + 255) % 256
    (Completes (exec .ini s) fun t => ∃ v, BlockInput s 1 up false v t) ∧
    (Completes (exec .ind s) fun t => ∃ v, BlockInput s (-1) down false v t) ∧
    (Completes (exec .inir s) fun t => ∃ v, BlockInput s 1 up rep v t) ∧
    (Completes (exec .indr s) fun t => ∃ v, BlockInput s (-1) down rep v t)

/-- OUTI, OUTD, OTIR and OTDR (R139): the repeating forms repeat unless B was 1. -/
def Obligations.BlockOutputs : Prop :=
  ∀ s : State,
    let rep := decide ((s.getReg .b).toNat ≠ 1)
    Completes (exec .outi s) (BlockOutput s 1 false) ∧
    Completes (exec .outd s) (BlockOutput s (-1) false) ∧
    Completes (exec .otir s) (BlockOutput s 1 rep) ∧
    Completes (exec .otdr s) (BlockOutput s (-1) rep)
end

