-- ==== Sys2Proof/Laws/Bits.lean ====
section
/-! SUPPORT. The laws of the bit-field helpers: composites and their halves, bytes and their bits, operation bytes and their
fields. -/

namespace Sys2Proof

@[simp] theorem hi8_concat (h l : Byte) : hi8 (concat h l) = h := by
  apply BitVec.eq_of_getLsbD_eq
  intro i hi
  simp only [hi8, concat, BitVec.getLsbD_extractLsb', BitVec.getLsbD_append]
  simp [hi]

@[simp] theorem lo8_concat (h l : Byte) : lo8 (concat h l) = l := by
  apply BitVec.eq_of_getLsbD_eq
  intro i hi
  simp only [lo8, concat, BitVec.getLsbD_extractLsb', BitVec.getLsbD_append]
  simp [hi]

/-- A composite is its two halves (R22). -/
@[simp] theorem concat_hi8_lo8 (v : Word) : concat (hi8 v) (lo8 v) = v := by
  apply BitVec.eq_of_getLsbD_eq
  intro i hi
  simp only [hi8, concat, lo8, BitVec.getLsbD_append, BitVec.getLsbD_extractLsb']
  by_cases h : i < 8
  · simp [h]
  · simp [h, show i - 8 < 8 by omega, show 8 + (i - 8) = i by omega]

theorem concat_toNat (h l : Byte) : (concat h l).toNat = h.toNat * 256 + l.toNat := by
  have := l.isLt
  rw [concat, BitVec.toNat_append, ← Nat.shiftLeft_add_eq_or_of_lt (by omega), Nat.shiftLeft_eq]

theorem hi8_toNat (v : Word) : (hi8 v).toNat = v.toNat / 256 := by
  have := v.isLt
  simp [hi8, BitVec.extractLsb'_toNat, Nat.shiftRight_eq_div_pow]
  omega

theorem lo8_toNat (v : Word) : (lo8 v).toNat = v.toNat % 256 := by
  simp [lo8, BitVec.extractLsb'_toNat]

theorem byteOf_getLsbD (b7 b6 b5 b4 b3 b2 b1 b0 : Bool) (g : Flag) :
    (byteOf b7 b6 b5 b4 b3 b2 b1 b0).getLsbD g.bit =
      match g with
      | .s => b7 | .z => b6 | .y => b5 | .h => b4 | .x => b3 | .pv => b2 | .n => b1 | .c => b0 := by
  cases g <;> revert b7 b6 b5 b4 b3 b2 b1 b0 <;> decide

/-- A byte is its eight bits. -/
theorem byteOf_bits (v : Byte) :
    byteOf (v.getLsbD 7) (v.getLsbD 6) (v.getLsbD 5) (v.getLsbD 4) (v.getLsbD 3) (v.getLsbD 2) (v.getLsbD 1)
      (v.getLsbD 0) = v := by
  revert v; decide +kernel

/-! ## Operation bytes -/

@[simp] theorem opX_opByte (x : BitVec 2) (y z : BitVec 3) : opX (opByte x y z) = x := by
  revert x y z; decide +kernel

@[simp] theorem opY_opByte (x : BitVec 2) (y z : BitVec 3) : opY (opByte x y z) = y := by
  revert x y z; decide +kernel

@[simp] theorem opZ_opByte (x : BitVec 2) (y z : BitVec 3) : opZ (opByte x y z) = z := by
  revert x y z; decide +kernel

/-- y is p and q joined (R76). -/
theorem opByteP_eq (x p : BitVec 2) (q : BitVec 1) (z : BitVec 3) : opByteP x p q z = opByte x (p ++ q) z := by
  revert x p q z; decide +kernel

@[simp] theorem opP_opByteP (x p : BitVec 2) (q : BitVec 1) (z : BitVec 3) : opP (opByteP x p q z) = p := by
  revert x p q z; decide +kernel

@[simp] theorem opQ_opByteP (x p : BitVec 2) (q : BitVec 1) (z : BitVec 3) : opQ (opByteP x p q z) = q := by
  revert x p q z; decide +kernel

/-- An operation byte is its fields. -/
theorem opByte_fields (op : Byte) : opByte (opX op) (opY op) (opZ op) = op := by
  revert op; decide +kernel

/-! ## Selectors and their codes -/

@[simp] theorem loc8Of_code (z : Loc8) : loc8Of z.code = z := by
  rcases z with r | _
  · cases r <;> rfl
  · rfl

@[simp] theorem reg8Of_copyCode (c : Option Reg8) : reg8Of (copyCode c) = c := by
  rcases c with _ | r
  · rfl
  · cases r <;> rfl

@[simp] theorem pairOf_code (p : Pair) : pairOf p.code = p := by cases p <;> rfl

@[simp] theorem stackPairOf_code (p : StackPair) : stackPairOf p.code = p := by cases p <;> rfl

@[simp] theorem indexPairOf_code (p : IndexPair) : indexPairOf p.code = p := by cases p <;> rfl

@[simp] theorem condOf_code (cc : Cond) : condOf cc.code = cc := by cases cc <;> rfl

end Sys2Proof
end

