-- ==== Sys2Proof/Laws/State.lean ====
section
/-! SUPPORT. One lemma per field per update of the state, so that no later proof unfolds a record update. The updates
are the base ones that every other operation is built from; for the bank updates the fields of the two banks are
given through `view` and `other`. -/

namespace Sys2Proof.Machine

/-! ## The view and the other bank -/

@[simp] theorem State.view_setView (s : State) (k : Bank) : (s.setView k).view = k := by
  unfold State.setView State.view; split <;> simp_all

@[simp] theorem State.other_setView (s : State) (k : Bank) : (s.setView k).other = s.other := by
  unfold State.setView State.other; split <;> simp_all

@[simp] theorem State.view_setOther (s : State) (k : Bank) : (s.setOther k).view = s.view := by
  unfold State.setOther State.view; split <;> simp_all

@[simp] theorem State.other_setOther (s : State) (k : Bank) : (s.setOther k).other = k := by
  unfold State.setOther State.other; split <;> simp_all

@[simp] theorem State.view_setReg (s : State) (g : Reg8) (v : Byte) : (s.setReg g v).view = s.view.set g v :=
  s.view_setView _

@[simp] theorem State.view_setF (s : State) (v : Byte) : (s.setF v).view = { s.view with f := v } :=
  s.view_setView _

@[simp] theorem State.view_setBc (s : State) (v : Word) :
    (s.setBc v).view = { s.view with b := hi8 v, c := lo8 v } := s.view_setView _

@[simp] theorem State.view_setDe (s : State) (v : Word) :
    (s.setDe v).view = { s.view with d := hi8 v, e := lo8 v } := s.view_setView _

@[simp] theorem State.view_setHl (s : State) (v : Word) :
    (s.setHl v).view = { s.view with h := hi8 v, l := lo8 v } := s.view_setView _

@[simp] theorem State.view_setAf (s : State) (v : Word) :
    (s.setAf v).view = { s.view with a := hi8 v, f := lo8 v } := s.view_setView _

@[simp] theorem State.view_assign (s : State) (fl : FlagSet) :
    (s.assign fl).view = { s.view with f := applyFlags s.view.f fl } := s.view_setView _

@[simp] theorem State.other_setReg (s : State) (g : Reg8) (v : Byte) : (s.setReg g v).other = s.other :=
  s.other_setView _

@[simp] theorem State.other_setF (s : State) (v : Byte) : (s.setF v).other = s.other :=
  s.other_setView _

@[simp] theorem State.other_setBc (s : State) (v : Word) : (s.setBc v).other = s.other :=
  s.other_setView _

@[simp] theorem State.other_setDe (s : State) (v : Word) : (s.setDe v).other = s.other :=
  s.other_setView _

@[simp] theorem State.other_setHl (s : State) (v : Word) : (s.setHl v).other = s.other :=
  s.other_setView _

@[simp] theorem State.other_setAf (s : State) (v : Word) : (s.setAf v).other = s.other :=
  s.other_setView _

@[simp] theorem State.other_assign (s : State) (fl : FlagSet) : (s.assign fl).other = s.other :=
  s.other_setView _

/-! ## setView -/

@[simp] theorem State.setView_alt (s : State) (k : Bank) : (s.setView k).alt = s.alt := by
  unfold State.setView; split <;> rfl
@[simp] theorem State.setView_i (s : State) (k : Bank) : (s.setView k).i = s.i := by
  unfold State.setView; split <;> rfl
@[simp] theorem State.setView_r (s : State) (k : Bank) : (s.setView k).r = s.r := by
  unfold State.setView; split <;> rfl
@[simp] theorem State.setView_ix (s : State) (k : Bank) : (s.setView k).ix = s.ix := by
  unfold State.setView; split <;> rfl
@[simp] theorem State.setView_iy (s : State) (k : Bank) : (s.setView k).iy = s.iy := by
  unfold State.setView; split <;> rfl
@[simp] theorem State.setView_sp (s : State) (k : Bank) : (s.setView k).sp = s.sp := by
  unfold State.setView; split <;> rfl
@[simp] theorem State.setView_pc (s : State) (k : Bank) : (s.setView k).pc = s.pc := by
  unfold State.setView; split <;> rfl
@[simp] theorem State.setView_halted (s : State) (k : Bank) : (s.setView k).halted = s.halted := by
  unfold State.setView; split <;> rfl
@[simp] theorem State.setView_iff1 (s : State) (k : Bank) : (s.setView k).iff1 = s.iff1 := by
  unfold State.setView; split <;> rfl
@[simp] theorem State.setView_iff2 (s : State) (k : Bank) : (s.setView k).iff2 = s.iff2 := by
  unfold State.setView; split <;> rfl
@[simp] theorem State.setView_im (s : State) (k : Bank) : (s.setView k).im = s.im := by
  unfold State.setView; split <;> rfl
@[simp] theorem State.setView_mem (s : State) (k : Bank) : (s.setView k).mem = s.mem := by
  unfold State.setView; split <;> rfl
@[simp] theorem State.setView_params (s : State) (k : Bank) : (s.setView k).params = s.params := by
  unfold State.setView; split <;> rfl
@[simp] theorem State.setView_draws (s : State) (k : Bank) : (s.setView k).draws = s.draws := by
  unfold State.setView; split <;> rfl
@[simp] theorem State.setView_events (s : State) (k : Bank) : (s.setView k).events = s.events := by
  unfold State.setView; split <;> rfl

/-! ## setOther -/

@[simp] theorem State.setOther_alt (s : State) (k : Bank) : (s.setOther k).alt = s.alt := by
  unfold State.setOther; split <;> rfl
@[simp] theorem State.setOther_i (s : State) (k : Bank) : (s.setOther k).i = s.i := by
  unfold State.setOther; split <;> rfl
@[simp] theorem State.setOther_r (s : State) (k : Bank) : (s.setOther k).r = s.r := by
  unfold State.setOther; split <;> rfl
@[simp] theorem State.setOther_ix (s : State) (k : Bank) : (s.setOther k).ix = s.ix := by
  unfold State.setOther; split <;> rfl
@[simp] theorem State.setOther_iy (s : State) (k : Bank) : (s.setOther k).iy = s.iy := by
  unfold State.setOther; split <;> rfl
@[simp] theorem State.setOther_sp (s : State) (k : Bank) : (s.setOther k).sp = s.sp := by
  unfold State.setOther; split <;> rfl
@[simp] theorem State.setOther_pc (s : State) (k : Bank) : (s.setOther k).pc = s.pc := by
  unfold State.setOther; split <;> rfl
@[simp] theorem State.setOther_halted (s : State) (k : Bank) : (s.setOther k).halted = s.halted := by
  unfold State.setOther; split <;> rfl
@[simp] theorem State.setOther_iff1 (s : State) (k : Bank) : (s.setOther k).iff1 = s.iff1 := by
  unfold State.setOther; split <;> rfl
@[simp] theorem State.setOther_iff2 (s : State) (k : Bank) : (s.setOther k).iff2 = s.iff2 := by
  unfold State.setOther; split <;> rfl
@[simp] theorem State.setOther_im (s : State) (k : Bank) : (s.setOther k).im = s.im := by
  unfold State.setOther; split <;> rfl
@[simp] theorem State.setOther_mem (s : State) (k : Bank) : (s.setOther k).mem = s.mem := by
  unfold State.setOther; split <;> rfl
@[simp] theorem State.setOther_params (s : State) (k : Bank) : (s.setOther k).params = s.params := by
  unfold State.setOther; split <;> rfl
@[simp] theorem State.setOther_draws (s : State) (k : Bank) : (s.setOther k).draws = s.draws := by
  unfold State.setOther; split <;> rfl
@[simp] theorem State.setOther_events (s : State) (k : Bank) : (s.setOther k).events = s.events := by
  unfold State.setOther; split <;> rfl

/-! ## setReg -/

@[simp] theorem State.setReg_alt (s : State) (g : Reg8) (v : Byte) : (s.setReg g v).alt = s.alt :=
  s.setView_alt _
@[simp] theorem State.setReg_i (s : State) (g : Reg8) (v : Byte) : (s.setReg g v).i = s.i :=
  s.setView_i _
@[simp] theorem State.setReg_r (s : State) (g : Reg8) (v : Byte) : (s.setReg g v).r = s.r :=
  s.setView_r _
@[simp] theorem State.setReg_ix (s : State) (g : Reg8) (v : Byte) : (s.setReg g v).ix = s.ix :=
  s.setView_ix _
@[simp] theorem State.setReg_iy (s : State) (g : Reg8) (v : Byte) : (s.setReg g v).iy = s.iy :=
  s.setView_iy _
@[simp] theorem State.setReg_sp (s : State) (g : Reg8) (v : Byte) : (s.setReg g v).sp = s.sp :=
  s.setView_sp _
@[simp] theorem State.setReg_pc (s : State) (g : Reg8) (v : Byte) : (s.setReg g v).pc = s.pc :=
  s.setView_pc _
@[simp] theorem State.setReg_halted (s : State) (g : Reg8) (v : Byte) : (s.setReg g v).halted = s.halted :=
  s.setView_halted _
@[simp] theorem State.setReg_iff1 (s : State) (g : Reg8) (v : Byte) : (s.setReg g v).iff1 = s.iff1 :=
  s.setView_iff1 _
@[simp] theorem State.setReg_iff2 (s : State) (g : Reg8) (v : Byte) : (s.setReg g v).iff2 = s.iff2 :=
  s.setView_iff2 _
@[simp] theorem State.setReg_im (s : State) (g : Reg8) (v : Byte) : (s.setReg g v).im = s.im :=
  s.setView_im _
@[simp] theorem State.setReg_mem (s : State) (g : Reg8) (v : Byte) : (s.setReg g v).mem = s.mem :=
  s.setView_mem _
@[simp] theorem State.setReg_params (s : State) (g : Reg8) (v : Byte) : (s.setReg g v).params = s.params :=
  s.setView_params _
@[simp] theorem State.setReg_draws (s : State) (g : Reg8) (v : Byte) : (s.setReg g v).draws = s.draws :=
  s.setView_draws _
@[simp] theorem State.setReg_events (s : State) (g : Reg8) (v : Byte) : (s.setReg g v).events = s.events :=
  s.setView_events _

/-! ## setF -/

@[simp] theorem State.setF_alt (s : State) (v : Byte) : (s.setF v).alt = s.alt :=
  s.setView_alt _
@[simp] theorem State.setF_i (s : State) (v : Byte) : (s.setF v).i = s.i :=
  s.setView_i _
@[simp] theorem State.setF_r (s : State) (v : Byte) : (s.setF v).r = s.r :=
  s.setView_r _
@[simp] theorem State.setF_ix (s : State) (v : Byte) : (s.setF v).ix = s.ix :=
  s.setView_ix _
@[simp] theorem State.setF_iy (s : State) (v : Byte) : (s.setF v).iy = s.iy :=
  s.setView_iy _
@[simp] theorem State.setF_sp (s : State) (v : Byte) : (s.setF v).sp = s.sp :=
  s.setView_sp _
@[simp] theorem State.setF_pc (s : State) (v : Byte) : (s.setF v).pc = s.pc :=
  s.setView_pc _
@[simp] theorem State.setF_halted (s : State) (v : Byte) : (s.setF v).halted = s.halted :=
  s.setView_halted _
@[simp] theorem State.setF_iff1 (s : State) (v : Byte) : (s.setF v).iff1 = s.iff1 :=
  s.setView_iff1 _
@[simp] theorem State.setF_iff2 (s : State) (v : Byte) : (s.setF v).iff2 = s.iff2 :=
  s.setView_iff2 _
@[simp] theorem State.setF_im (s : State) (v : Byte) : (s.setF v).im = s.im :=
  s.setView_im _
@[simp] theorem State.setF_mem (s : State) (v : Byte) : (s.setF v).mem = s.mem :=
  s.setView_mem _
@[simp] theorem State.setF_params (s : State) (v : Byte) : (s.setF v).params = s.params :=
  s.setView_params _
@[simp] theorem State.setF_draws (s : State) (v : Byte) : (s.setF v).draws = s.draws :=
  s.setView_draws _
@[simp] theorem State.setF_events (s : State) (v : Byte) : (s.setF v).events = s.events :=
  s.setView_events _

/-! ## setBc -/

@[simp] theorem State.setBc_alt (s : State) (v : Word) : (s.setBc v).alt = s.alt :=
  s.setView_alt _
@[simp] theorem State.setBc_i (s : State) (v : Word) : (s.setBc v).i = s.i :=
  s.setView_i _
@[simp] theorem State.setBc_r (s : State) (v : Word) : (s.setBc v).r = s.r :=
  s.setView_r _
@[simp] theorem State.setBc_ix (s : State) (v : Word) : (s.setBc v).ix = s.ix :=
  s.setView_ix _
@[simp] theorem State.setBc_iy (s : State) (v : Word) : (s.setBc v).iy = s.iy :=
  s.setView_iy _
@[simp] theorem State.setBc_sp (s : State) (v : Word) : (s.setBc v).sp = s.sp :=
  s.setView_sp _
@[simp] theorem State.setBc_pc (s : State) (v : Word) : (s.setBc v).pc = s.pc :=
  s.setView_pc _
@[simp] theorem State.setBc_halted (s : State) (v : Word) : (s.setBc v).halted = s.halted :=
  s.setView_halted _
@[simp] theorem State.setBc_iff1 (s : State) (v : Word) : (s.setBc v).iff1 = s.iff1 :=
  s.setView_iff1 _
@[simp] theorem State.setBc_iff2 (s : State) (v : Word) : (s.setBc v).iff2 = s.iff2 :=
  s.setView_iff2 _
@[simp] theorem State.setBc_im (s : State) (v : Word) : (s.setBc v).im = s.im :=
  s.setView_im _
@[simp] theorem State.setBc_mem (s : State) (v : Word) : (s.setBc v).mem = s.mem :=
  s.setView_mem _
@[simp] theorem State.setBc_params (s : State) (v : Word) : (s.setBc v).params = s.params :=
  s.setView_params _
@[simp] theorem State.setBc_draws (s : State) (v : Word) : (s.setBc v).draws = s.draws :=
  s.setView_draws _
@[simp] theorem State.setBc_events (s : State) (v : Word) : (s.setBc v).events = s.events :=
  s.setView_events _

/-! ## setDe -/

@[simp] theorem State.setDe_alt (s : State) (v : Word) : (s.setDe v).alt = s.alt :=
  s.setView_alt _
@[simp] theorem State.setDe_i (s : State) (v : Word) : (s.setDe v).i = s.i :=
  s.setView_i _
@[simp] theorem State.setDe_r (s : State) (v : Word) : (s.setDe v).r = s.r :=
  s.setView_r _
@[simp] theorem State.setDe_ix (s : State) (v : Word) : (s.setDe v).ix = s.ix :=
  s.setView_ix _
@[simp] theorem State.setDe_iy (s : State) (v : Word) : (s.setDe v).iy = s.iy :=
  s.setView_iy _
@[simp] theorem State.setDe_sp (s : State) (v : Word) : (s.setDe v).sp = s.sp :=
  s.setView_sp _
@[simp] theorem State.setDe_pc (s : State) (v : Word) : (s.setDe v).pc = s.pc :=
  s.setView_pc _
@[simp] theorem State.setDe_halted (s : State) (v : Word) : (s.setDe v).halted = s.halted :=
  s.setView_halted _
@[simp] theorem State.setDe_iff1 (s : State) (v : Word) : (s.setDe v).iff1 = s.iff1 :=
  s.setView_iff1 _
@[simp] theorem State.setDe_iff2 (s : State) (v : Word) : (s.setDe v).iff2 = s.iff2 :=
  s.setView_iff2 _
@[simp] theorem State.setDe_im (s : State) (v : Word) : (s.setDe v).im = s.im :=
  s.setView_im _
@[simp] theorem State.setDe_mem (s : State) (v : Word) : (s.setDe v).mem = s.mem :=
  s.setView_mem _
@[simp] theorem State.setDe_params (s : State) (v : Word) : (s.setDe v).params = s.params :=
  s.setView_params _
@[simp] theorem State.setDe_draws (s : State) (v : Word) : (s.setDe v).draws = s.draws :=
  s.setView_draws _
@[simp] theorem State.setDe_events (s : State) (v : Word) : (s.setDe v).events = s.events :=
  s.setView_events _

/-! ## setHl -/

@[simp] theorem State.setHl_alt (s : State) (v : Word) : (s.setHl v).alt = s.alt :=
  s.setView_alt _
@[simp] theorem State.setHl_i (s : State) (v : Word) : (s.setHl v).i = s.i :=
  s.setView_i _
@[simp] theorem State.setHl_r (s : State) (v : Word) : (s.setHl v).r = s.r :=
  s.setView_r _
@[simp] theorem State.setHl_ix (s : State) (v : Word) : (s.setHl v).ix = s.ix :=
  s.setView_ix _
@[simp] theorem State.setHl_iy (s : State) (v : Word) : (s.setHl v).iy = s.iy :=
  s.setView_iy _
@[simp] theorem State.setHl_sp (s : State) (v : Word) : (s.setHl v).sp = s.sp :=
  s.setView_sp _
@[simp] theorem State.setHl_pc (s : State) (v : Word) : (s.setHl v).pc = s.pc :=
  s.setView_pc _
@[simp] theorem State.setHl_halted (s : State) (v : Word) : (s.setHl v).halted = s.halted :=
  s.setView_halted _
@[simp] theorem State.setHl_iff1 (s : State) (v : Word) : (s.setHl v).iff1 = s.iff1 :=
  s.setView_iff1 _
@[simp] theorem State.setHl_iff2 (s : State) (v : Word) : (s.setHl v).iff2 = s.iff2 :=
  s.setView_iff2 _
@[simp] theorem State.setHl_im (s : State) (v : Word) : (s.setHl v).im = s.im :=
  s.setView_im _
@[simp] theorem State.setHl_mem (s : State) (v : Word) : (s.setHl v).mem = s.mem :=
  s.setView_mem _
@[simp] theorem State.setHl_params (s : State) (v : Word) : (s.setHl v).params = s.params :=
  s.setView_params _
@[simp] theorem State.setHl_draws (s : State) (v : Word) : (s.setHl v).draws = s.draws :=
  s.setView_draws _
@[simp] theorem State.setHl_events (s : State) (v : Word) : (s.setHl v).events = s.events :=
  s.setView_events _

/-! ## setAf -/

@[simp] theorem State.setAf_alt (s : State) (v : Word) : (s.setAf v).alt = s.alt :=
  s.setView_alt _
@[simp] theorem State.setAf_i (s : State) (v : Word) : (s.setAf v).i = s.i :=
  s.setView_i _
@[simp] theorem State.setAf_r (s : State) (v : Word) : (s.setAf v).r = s.r :=
  s.setView_r _
@[simp] theorem State.setAf_ix (s : State) (v : Word) : (s.setAf v).ix = s.ix :=
  s.setView_ix _
@[simp] theorem State.setAf_iy (s : State) (v : Word) : (s.setAf v).iy = s.iy :=
  s.setView_iy _
@[simp] theorem State.setAf_sp (s : State) (v : Word) : (s.setAf v).sp = s.sp :=
  s.setView_sp _
@[simp] theorem State.setAf_pc (s : State) (v : Word) : (s.setAf v).pc = s.pc :=
  s.setView_pc _
@[simp] theorem State.setAf_halted (s : State) (v : Word) : (s.setAf v).halted = s.halted :=
  s.setView_halted _
@[simp] theorem State.setAf_iff1 (s : State) (v : Word) : (s.setAf v).iff1 = s.iff1 :=
  s.setView_iff1 _
@[simp] theorem State.setAf_iff2 (s : State) (v : Word) : (s.setAf v).iff2 = s.iff2 :=
  s.setView_iff2 _
@[simp] theorem State.setAf_im (s : State) (v : Word) : (s.setAf v).im = s.im :=
  s.setView_im _
@[simp] theorem State.setAf_mem (s : State) (v : Word) : (s.setAf v).mem = s.mem :=
  s.setView_mem _
@[simp] theorem State.setAf_params (s : State) (v : Word) : (s.setAf v).params = s.params :=
  s.setView_params _
@[simp] theorem State.setAf_draws (s : State) (v : Word) : (s.setAf v).draws = s.draws :=
  s.setView_draws _
@[simp] theorem State.setAf_events (s : State) (v : Word) : (s.setAf v).events = s.events :=
  s.setView_events _

/-! ## assign -/

@[simp] theorem State.assign_alt (s : State) (fl : FlagSet) : (s.assign fl).alt = s.alt :=
  s.setView_alt _
@[simp] theorem State.assign_i (s : State) (fl : FlagSet) : (s.assign fl).i = s.i :=
  s.setView_i _
@[simp] theorem State.assign_r (s : State) (fl : FlagSet) : (s.assign fl).r = s.r :=
  s.setView_r _
@[simp] theorem State.assign_ix (s : State) (fl : FlagSet) : (s.assign fl).ix = s.ix :=
  s.setView_ix _
@[simp] theorem State.assign_iy (s : State) (fl : FlagSet) : (s.assign fl).iy = s.iy :=
  s.setView_iy _
@[simp] theorem State.assign_sp (s : State) (fl : FlagSet) : (s.assign fl).sp = s.sp :=
  s.setView_sp _
@[simp] theorem State.assign_pc (s : State) (fl : FlagSet) : (s.assign fl).pc = s.pc :=
  s.setView_pc _
@[simp] theorem State.assign_halted (s : State) (fl : FlagSet) : (s.assign fl).halted = s.halted :=
  s.setView_halted _
@[simp] theorem State.assign_iff1 (s : State) (fl : FlagSet) : (s.assign fl).iff1 = s.iff1 :=
  s.setView_iff1 _
@[simp] theorem State.assign_iff2 (s : State) (fl : FlagSet) : (s.assign fl).iff2 = s.iff2 :=
  s.setView_iff2 _
@[simp] theorem State.assign_im (s : State) (fl : FlagSet) : (s.assign fl).im = s.im :=
  s.setView_im _
@[simp] theorem State.assign_mem (s : State) (fl : FlagSet) : (s.assign fl).mem = s.mem :=
  s.setView_mem _
@[simp] theorem State.assign_params (s : State) (fl : FlagSet) : (s.assign fl).params = s.params :=
  s.setView_params _
@[simp] theorem State.assign_draws (s : State) (fl : FlagSet) : (s.assign fl).draws = s.draws :=
  s.setView_draws _
@[simp] theorem State.assign_events (s : State) (fl : FlagSet) : (s.assign fl).events = s.events :=
  s.setView_events _

/-! ## setSp -/

@[simp] theorem State.setSp_prim (s : State) (v : Word) : (s.setSp v).prim = s.prim := rfl
@[simp] theorem State.setSp_shad (s : State) (v : Word) : (s.setSp v).shad = s.shad := rfl
@[simp] theorem State.setSp_alt (s : State) (v : Word) : (s.setSp v).alt = s.alt := rfl
@[simp] theorem State.setSp_i (s : State) (v : Word) : (s.setSp v).i = s.i := rfl
@[simp] theorem State.setSp_r (s : State) (v : Word) : (s.setSp v).r = s.r := rfl
@[simp] theorem State.setSp_ix (s : State) (v : Word) : (s.setSp v).ix = s.ix := rfl
@[simp] theorem State.setSp_iy (s : State) (v : Word) : (s.setSp v).iy = s.iy := rfl
@[simp] theorem State.setSp_sp (s : State) (v : Word) : (s.setSp v).sp = v := rfl
@[simp] theorem State.setSp_pc (s : State) (v : Word) : (s.setSp v).pc = s.pc := rfl
@[simp] theorem State.setSp_halted (s : State) (v : Word) : (s.setSp v).halted = s.halted := rfl
@[simp] theorem State.setSp_iff1 (s : State) (v : Word) : (s.setSp v).iff1 = s.iff1 := rfl
@[simp] theorem State.setSp_iff2 (s : State) (v : Word) : (s.setSp v).iff2 = s.iff2 := rfl
@[simp] theorem State.setSp_im (s : State) (v : Word) : (s.setSp v).im = s.im := rfl
@[simp] theorem State.setSp_mem (s : State) (v : Word) : (s.setSp v).mem = s.mem := rfl
@[simp] theorem State.setSp_params (s : State) (v : Word) : (s.setSp v).params = s.params := rfl
@[simp] theorem State.setSp_draws (s : State) (v : Word) : (s.setSp v).draws = s.draws := rfl
@[simp] theorem State.setSp_events (s : State) (v : Word) : (s.setSp v).events = s.events := rfl
@[simp] theorem State.view_setSp (s : State) (v : Word) : (s.setSp v).view = s.view := rfl
@[simp] theorem State.other_setSp (s : State) (v : Word) : (s.setSp v).other = s.other := rfl

/-! ## jump -/

@[simp] theorem State.jump_prim (s : State) (v : Word) : (s.jump v).prim = s.prim := rfl
@[simp] theorem State.jump_shad (s : State) (v : Word) : (s.jump v).shad = s.shad := rfl
@[simp] theorem State.jump_alt (s : State) (v : Word) : (s.jump v).alt = s.alt := rfl
@[simp] theorem State.jump_i (s : State) (v : Word) : (s.jump v).i = s.i := rfl
@[simp] theorem State.jump_r (s : State) (v : Word) : (s.jump v).r = s.r := rfl
@[simp] theorem State.jump_ix (s : State) (v : Word) : (s.jump v).ix = s.ix := rfl
@[simp] theorem State.jump_iy (s : State) (v : Word) : (s.jump v).iy = s.iy := rfl
@[simp] theorem State.jump_sp (s : State) (v : Word) : (s.jump v).sp = s.sp := rfl
@[simp] theorem State.jump_pc (s : State) (v : Word) : (s.jump v).pc = v := rfl
@[simp] theorem State.jump_halted (s : State) (v : Word) : (s.jump v).halted = s.halted := rfl
@[simp] theorem State.jump_iff1 (s : State) (v : Word) : (s.jump v).iff1 = s.iff1 := rfl
@[simp] theorem State.jump_iff2 (s : State) (v : Word) : (s.jump v).iff2 = s.iff2 := rfl
@[simp] theorem State.jump_im (s : State) (v : Word) : (s.jump v).im = s.im := rfl
@[simp] theorem State.jump_mem (s : State) (v : Word) : (s.jump v).mem = s.mem := rfl
@[simp] theorem State.jump_params (s : State) (v : Word) : (s.jump v).params = s.params := rfl
@[simp] theorem State.jump_draws (s : State) (v : Word) : (s.jump v).draws = s.draws := rfl
@[simp] theorem State.jump_events (s : State) (v : Word) : (s.jump v).events = s.events := rfl
@[simp] theorem State.view_jump (s : State) (v : Word) : (s.jump v).view = s.view := rfl
@[simp] theorem State.other_jump (s : State) (v : Word) : (s.jump v).other = s.other := rfl

/-! ## setI -/

@[simp] theorem State.setI_prim (s : State) (v : Byte) : (s.setI v).prim = s.prim := rfl
@[simp] theorem State.setI_shad (s : State) (v : Byte) : (s.setI v).shad = s.shad := rfl
@[simp] theorem State.setI_alt (s : State) (v : Byte) : (s.setI v).alt = s.alt := rfl
@[simp] theorem State.setI_i (s : State) (v : Byte) : (s.setI v).i = v := rfl
@[simp] theorem State.setI_r (s : State) (v : Byte) : (s.setI v).r = s.r := rfl
@[simp] theorem State.setI_ix (s : State) (v : Byte) : (s.setI v).ix = s.ix := rfl
@[simp] theorem State.setI_iy (s : State) (v : Byte) : (s.setI v).iy = s.iy := rfl
@[simp] theorem State.setI_sp (s : State) (v : Byte) : (s.setI v).sp = s.sp := rfl
@[simp] theorem State.setI_pc (s : State) (v : Byte) : (s.setI v).pc = s.pc := rfl
@[simp] theorem State.setI_halted (s : State) (v : Byte) : (s.setI v).halted = s.halted := rfl
@[simp] theorem State.setI_iff1 (s : State) (v : Byte) : (s.setI v).iff1 = s.iff1 := rfl
@[simp] theorem State.setI_iff2 (s : State) (v : Byte) : (s.setI v).iff2 = s.iff2 := rfl
@[simp] theorem State.setI_im (s : State) (v : Byte) : (s.setI v).im = s.im := rfl
@[simp] theorem State.setI_mem (s : State) (v : Byte) : (s.setI v).mem = s.mem := rfl
@[simp] theorem State.setI_params (s : State) (v : Byte) : (s.setI v).params = s.params := rfl
@[simp] theorem State.setI_draws (s : State) (v : Byte) : (s.setI v).draws = s.draws := rfl
@[simp] theorem State.setI_events (s : State) (v : Byte) : (s.setI v).events = s.events := rfl
@[simp] theorem State.view_setI (s : State) (v : Byte) : (s.setI v).view = s.view := rfl
@[simp] theorem State.other_setI (s : State) (v : Byte) : (s.setI v).other = s.other := rfl

/-! ## setRefresh -/

@[simp] theorem State.setRefresh_prim (s : State) (v : Byte) : (s.setRefresh v).prim = s.prim := rfl
@[simp] theorem State.setRefresh_shad (s : State) (v : Byte) : (s.setRefresh v).shad = s.shad := rfl
@[simp] theorem State.setRefresh_alt (s : State) (v : Byte) : (s.setRefresh v).alt = s.alt := rfl
@[simp] theorem State.setRefresh_i (s : State) (v : Byte) : (s.setRefresh v).i = s.i := rfl
@[simp] theorem State.setRefresh_r (s : State) (v : Byte) : (s.setRefresh v).r = v := rfl
@[simp] theorem State.setRefresh_ix (s : State) (v : Byte) : (s.setRefresh v).ix = s.ix := rfl
@[simp] theorem State.setRefresh_iy (s : State) (v : Byte) : (s.setRefresh v).iy = s.iy := rfl
@[simp] theorem State.setRefresh_sp (s : State) (v : Byte) : (s.setRefresh v).sp = s.sp := rfl
@[simp] theorem State.setRefresh_pc (s : State) (v : Byte) : (s.setRefresh v).pc = s.pc := rfl
@[simp] theorem State.setRefresh_halted (s : State) (v : Byte) : (s.setRefresh v).halted = s.halted := rfl
@[simp] theorem State.setRefresh_iff1 (s : State) (v : Byte) : (s.setRefresh v).iff1 = s.iff1 := rfl
@[simp] theorem State.setRefresh_iff2 (s : State) (v : Byte) : (s.setRefresh v).iff2 = s.iff2 := rfl
@[simp] theorem State.setRefresh_im (s : State) (v : Byte) : (s.setRefresh v).im = s.im := rfl
@[simp] theorem State.setRefresh_mem (s : State) (v : Byte) : (s.setRefresh v).mem = s.mem := rfl
@[simp] theorem State.setRefresh_params (s : State) (v : Byte) : (s.setRefresh v).params = s.params := rfl
@[simp] theorem State.setRefresh_draws (s : State) (v : Byte) : (s.setRefresh v).draws = s.draws := rfl
@[simp] theorem State.setRefresh_events (s : State) (v : Byte) : (s.setRefresh v).events = s.events := rfl
@[simp] theorem State.view_setRefresh (s : State) (v : Byte) : (s.setRefresh v).view = s.view := rfl
@[simp] theorem State.other_setRefresh (s : State) (v : Byte) : (s.setRefresh v).other = s.other := rfl

/-! ## setIff1 -/

@[simp] theorem State.setIff1_prim (s : State) (v : Bool) : (s.setIff1 v).prim = s.prim := rfl
@[simp] theorem State.setIff1_shad (s : State) (v : Bool) : (s.setIff1 v).shad = s.shad := rfl
@[simp] theorem State.setIff1_alt (s : State) (v : Bool) : (s.setIff1 v).alt = s.alt := rfl
@[simp] theorem State.setIff1_i (s : State) (v : Bool) : (s.setIff1 v).i = s.i := rfl
@[simp] theorem State.setIff1_r (s : State) (v : Bool) : (s.setIff1 v).r = s.r := rfl
@[simp] theorem State.setIff1_ix (s : State) (v : Bool) : (s.setIff1 v).ix = s.ix := rfl
@[simp] theorem State.setIff1_iy (s : State) (v : Bool) : (s.setIff1 v).iy = s.iy := rfl
@[simp] theorem State.setIff1_sp (s : State) (v : Bool) : (s.setIff1 v).sp = s.sp := rfl
@[simp] theorem State.setIff1_pc (s : State) (v : Bool) : (s.setIff1 v).pc = s.pc := rfl
@[simp] theorem State.setIff1_halted (s : State) (v : Bool) : (s.setIff1 v).halted = s.halted := rfl
@[simp] theorem State.setIff1_iff1 (s : State) (v : Bool) : (s.setIff1 v).iff1 = v := rfl
@[simp] theorem State.setIff1_iff2 (s : State) (v : Bool) : (s.setIff1 v).iff2 = s.iff2 := rfl
@[simp] theorem State.setIff1_im (s : State) (v : Bool) : (s.setIff1 v).im = s.im := rfl
@[simp] theorem State.setIff1_mem (s : State) (v : Bool) : (s.setIff1 v).mem = s.mem := rfl
@[simp] theorem State.setIff1_params (s : State) (v : Bool) : (s.setIff1 v).params = s.params := rfl
@[simp] theorem State.setIff1_draws (s : State) (v : Bool) : (s.setIff1 v).draws = s.draws := rfl
@[simp] theorem State.setIff1_events (s : State) (v : Bool) : (s.setIff1 v).events = s.events := rfl
@[simp] theorem State.view_setIff1 (s : State) (v : Bool) : (s.setIff1 v).view = s.view := rfl
@[simp] theorem State.other_setIff1 (s : State) (v : Bool) : (s.setIff1 v).other = s.other := rfl

/-! ## setIff2 -/

@[simp] theorem State.setIff2_prim (s : State) (v : Bool) : (s.setIff2 v).prim = s.prim := rfl
@[simp] theorem State.setIff2_shad (s : State) (v : Bool) : (s.setIff2 v).shad = s.shad := rfl
@[simp] theorem State.setIff2_alt (s : State) (v : Bool) : (s.setIff2 v).alt = s.alt := rfl
@[simp] theorem State.setIff2_i (s : State) (v : Bool) : (s.setIff2 v).i = s.i := rfl
@[simp] theorem State.setIff2_r (s : State) (v : Bool) : (s.setIff2 v).r = s.r := rfl
@[simp] theorem State.setIff2_ix (s : State) (v : Bool) : (s.setIff2 v).ix = s.ix := rfl
@[simp] theorem State.setIff2_iy (s : State) (v : Bool) : (s.setIff2 v).iy = s.iy := rfl
@[simp] theorem State.setIff2_sp (s : State) (v : Bool) : (s.setIff2 v).sp = s.sp := rfl
@[simp] theorem State.setIff2_pc (s : State) (v : Bool) : (s.setIff2 v).pc = s.pc := rfl
@[simp] theorem State.setIff2_halted (s : State) (v : Bool) : (s.setIff2 v).halted = s.halted := rfl
@[simp] theorem State.setIff2_iff1 (s : State) (v : Bool) : (s.setIff2 v).iff1 = s.iff1 := rfl
@[simp] theorem State.setIff2_iff2 (s : State) (v : Bool) : (s.setIff2 v).iff2 = v := rfl
@[simp] theorem State.setIff2_im (s : State) (v : Bool) : (s.setIff2 v).im = s.im := rfl
@[simp] theorem State.setIff2_mem (s : State) (v : Bool) : (s.setIff2 v).mem = s.mem := rfl
@[simp] theorem State.setIff2_params (s : State) (v : Bool) : (s.setIff2 v).params = s.params := rfl
@[simp] theorem State.setIff2_draws (s : State) (v : Bool) : (s.setIff2 v).draws = s.draws := rfl
@[simp] theorem State.setIff2_events (s : State) (v : Bool) : (s.setIff2 v).events = s.events := rfl
@[simp] theorem State.view_setIff2 (s : State) (v : Bool) : (s.setIff2 v).view = s.view := rfl
@[simp] theorem State.other_setIff2 (s : State) (v : Bool) : (s.setIff2 v).other = s.other := rfl

/-! ## setIm -/

@[simp] theorem State.setIm_prim (s : State) (v : IntMode) : (s.setIm v).prim = s.prim := rfl
@[simp] theorem State.setIm_shad (s : State) (v : IntMode) : (s.setIm v).shad = s.shad := rfl
@[simp] theorem State.setIm_alt (s : State) (v : IntMode) : (s.setIm v).alt = s.alt := rfl
@[simp] theorem State.setIm_i (s : State) (v : IntMode) : (s.setIm v).i = s.i := rfl
@[simp] theorem State.setIm_r (s : State) (v : IntMode) : (s.setIm v).r = s.r := rfl
@[simp] theorem State.setIm_ix (s : State) (v : IntMode) : (s.setIm v).ix = s.ix := rfl
@[simp] theorem State.setIm_iy (s : State) (v : IntMode) : (s.setIm v).iy = s.iy := rfl
@[simp] theorem State.setIm_sp (s : State) (v : IntMode) : (s.setIm v).sp = s.sp := rfl
@[simp] theorem State.setIm_pc (s : State) (v : IntMode) : (s.setIm v).pc = s.pc := rfl
@[simp] theorem State.setIm_halted (s : State) (v : IntMode) : (s.setIm v).halted = s.halted := rfl
@[simp] theorem State.setIm_iff1 (s : State) (v : IntMode) : (s.setIm v).iff1 = s.iff1 := rfl
@[simp] theorem State.setIm_iff2 (s : State) (v : IntMode) : (s.setIm v).iff2 = s.iff2 := rfl
@[simp] theorem State.setIm_im (s : State) (v : IntMode) : (s.setIm v).im = v := rfl
@[simp] theorem State.setIm_mem (s : State) (v : IntMode) : (s.setIm v).mem = s.mem := rfl
@[simp] theorem State.setIm_params (s : State) (v : IntMode) : (s.setIm v).params = s.params := rfl
@[simp] theorem State.setIm_draws (s : State) (v : IntMode) : (s.setIm v).draws = s.draws := rfl
@[simp] theorem State.setIm_events (s : State) (v : IntMode) : (s.setIm v).events = s.events := rfl
@[simp] theorem State.view_setIm (s : State) (v : IntMode) : (s.setIm v).view = s.view := rfl
@[simp] theorem State.other_setIm (s : State) (v : IntMode) : (s.setIm v).other = s.other := rfl

/-! ## setHalted -/

@[simp] theorem State.setHalted_prim (s : State) (v : Bool) : (s.setHalted v).prim = s.prim := rfl
@[simp] theorem State.setHalted_shad (s : State) (v : Bool) : (s.setHalted v).shad = s.shad := rfl
@[simp] theorem State.setHalted_alt (s : State) (v : Bool) : (s.setHalted v).alt = s.alt := rfl
@[simp] theorem State.setHalted_i (s : State) (v : Bool) : (s.setHalted v).i = s.i := rfl
@[simp] theorem State.setHalted_r (s : State) (v : Bool) : (s.setHalted v).r = s.r := rfl
@[simp] theorem State.setHalted_ix (s : State) (v : Bool) : (s.setHalted v).ix = s.ix := rfl
@[simp] theorem State.setHalted_iy (s : State) (v : Bool) : (s.setHalted v).iy = s.iy := rfl
@[simp] theorem State.setHalted_sp (s : State) (v : Bool) : (s.setHalted v).sp = s.sp := rfl
@[simp] theorem State.setHalted_pc (s : State) (v : Bool) : (s.setHalted v).pc = s.pc := rfl
@[simp] theorem State.setHalted_halted (s : State) (v : Bool) : (s.setHalted v).halted = v := rfl
@[simp] theorem State.setHalted_iff1 (s : State) (v : Bool) : (s.setHalted v).iff1 = s.iff1 := rfl
@[simp] theorem State.setHalted_iff2 (s : State) (v : Bool) : (s.setHalted v).iff2 = s.iff2 := rfl
@[simp] theorem State.setHalted_im (s : State) (v : Bool) : (s.setHalted v).im = s.im := rfl
@[simp] theorem State.setHalted_mem (s : State) (v : Bool) : (s.setHalted v).mem = s.mem := rfl
@[simp] theorem State.setHalted_params (s : State) (v : Bool) : (s.setHalted v).params = s.params := rfl
@[simp] theorem State.setHalted_draws (s : State) (v : Bool) : (s.setHalted v).draws = s.draws := rfl
@[simp] theorem State.setHalted_events (s : State) (v : Bool) : (s.setHalted v).events = s.events := rfl
@[simp] theorem State.view_setHalted (s : State) (v : Bool) : (s.setHalted v).view = s.view := rfl
@[simp] theorem State.other_setHalted (s : State) (v : Bool) : (s.setHalted v).other = s.other := rfl

/-! ## drew -/

@[simp] theorem State.drew_prim (s : State) : (s.drew).prim = s.prim := rfl
@[simp] theorem State.drew_shad (s : State) : (s.drew).shad = s.shad := rfl
@[simp] theorem State.drew_alt (s : State) : (s.drew).alt = s.alt := rfl
@[simp] theorem State.drew_i (s : State) : (s.drew).i = s.i := rfl
@[simp] theorem State.drew_r (s : State) : (s.drew).r = s.r := rfl
@[simp] theorem State.drew_ix (s : State) : (s.drew).ix = s.ix := rfl
@[simp] theorem State.drew_iy (s : State) : (s.drew).iy = s.iy := rfl
@[simp] theorem State.drew_sp (s : State) : (s.drew).sp = s.sp := rfl
@[simp] theorem State.drew_pc (s : State) : (s.drew).pc = s.pc := rfl
@[simp] theorem State.drew_halted (s : State) : (s.drew).halted = s.halted := rfl
@[simp] theorem State.drew_iff1 (s : State) : (s.drew).iff1 = s.iff1 := rfl
@[simp] theorem State.drew_iff2 (s : State) : (s.drew).iff2 = s.iff2 := rfl
@[simp] theorem State.drew_im (s : State) : (s.drew).im = s.im := rfl
@[simp] theorem State.drew_mem (s : State) : (s.drew).mem = s.mem := rfl
@[simp] theorem State.drew_params (s : State) : (s.drew).params = s.params := rfl
@[simp] theorem State.drew_draws (s : State) : (s.drew).draws = s.draws + 1 := rfl
@[simp] theorem State.drew_events (s : State) : (s.drew).events = s.events := rfl
@[simp] theorem State.view_drew (s : State) : (s.drew).view = s.view := rfl
@[simp] theorem State.other_drew (s : State) : (s.drew).other = s.other := rfl

/-! ## record -/

@[simp] theorem State.record_prim (s : State) (e : IoEvent) : (s.record e).prim = s.prim := rfl
@[simp] theorem State.record_shad (s : State) (e : IoEvent) : (s.record e).shad = s.shad := rfl
@[simp] theorem State.record_alt (s : State) (e : IoEvent) : (s.record e).alt = s.alt := rfl
@[simp] theorem State.record_i (s : State) (e : IoEvent) : (s.record e).i = s.i := rfl
@[simp] theorem State.record_r (s : State) (e : IoEvent) : (s.record e).r = s.r := rfl
@[simp] theorem State.record_ix (s : State) (e : IoEvent) : (s.record e).ix = s.ix := rfl
@[simp] theorem State.record_iy (s : State) (e : IoEvent) : (s.record e).iy = s.iy := rfl
@[simp] theorem State.record_sp (s : State) (e : IoEvent) : (s.record e).sp = s.sp := rfl
@[simp] theorem State.record_pc (s : State) (e : IoEvent) : (s.record e).pc = s.pc := rfl
@[simp] theorem State.record_halted (s : State) (e : IoEvent) : (s.record e).halted = s.halted := rfl
@[simp] theorem State.record_iff1 (s : State) (e : IoEvent) : (s.record e).iff1 = s.iff1 := rfl
@[simp] theorem State.record_iff2 (s : State) (e : IoEvent) : (s.record e).iff2 = s.iff2 := rfl
@[simp] theorem State.record_im (s : State) (e : IoEvent) : (s.record e).im = s.im := rfl
@[simp] theorem State.record_mem (s : State) (e : IoEvent) : (s.record e).mem = s.mem := rfl
@[simp] theorem State.record_params (s : State) (e : IoEvent) : (s.record e).params = s.params := rfl
@[simp] theorem State.record_draws (s : State) (e : IoEvent) : (s.record e).draws = s.draws := rfl
@[simp] theorem State.record_events (s : State) (e : IoEvent) : (s.record e).events = e :: s.events := rfl
@[simp] theorem State.view_record (s : State) (e : IoEvent) : (s.record e).view = s.view := rfl
@[simp] theorem State.other_record (s : State) (e : IoEvent) : (s.record e).other = s.other := rfl

/-! ## write -/

@[simp] theorem State.write_prim (s : State) (a : Word) (v : Byte) : (s.write a v).prim = s.prim := rfl
@[simp] theorem State.write_shad (s : State) (a : Word) (v : Byte) : (s.write a v).shad = s.shad := rfl
@[simp] theorem State.write_alt (s : State) (a : Word) (v : Byte) : (s.write a v).alt = s.alt := rfl
@[simp] theorem State.write_i (s : State) (a : Word) (v : Byte) : (s.write a v).i = s.i := rfl
@[simp] theorem State.write_r (s : State) (a : Word) (v : Byte) : (s.write a v).r = s.r := rfl
@[simp] theorem State.write_ix (s : State) (a : Word) (v : Byte) : (s.write a v).ix = s.ix := rfl
@[simp] theorem State.write_iy (s : State) (a : Word) (v : Byte) : (s.write a v).iy = s.iy := rfl
@[simp] theorem State.write_sp (s : State) (a : Word) (v : Byte) : (s.write a v).sp = s.sp := rfl
@[simp] theorem State.write_pc (s : State) (a : Word) (v : Byte) : (s.write a v).pc = s.pc := rfl
@[simp] theorem State.write_halted (s : State) (a : Word) (v : Byte) : (s.write a v).halted = s.halted := rfl
@[simp] theorem State.write_iff1 (s : State) (a : Word) (v : Byte) : (s.write a v).iff1 = s.iff1 := rfl
@[simp] theorem State.write_iff2 (s : State) (a : Word) (v : Byte) : (s.write a v).iff2 = s.iff2 := rfl
@[simp] theorem State.write_im (s : State) (a : Word) (v : Byte) : (s.write a v).im = s.im := rfl
@[simp] theorem State.write_mem (s : State) (a : Word) (v : Byte) : (s.write a v).mem = Memory.set s.mem (s.cell a) v := rfl
@[simp] theorem State.write_params (s : State) (a : Word) (v : Byte) : (s.write a v).params = s.params := rfl
@[simp] theorem State.write_draws (s : State) (a : Word) (v : Byte) : (s.write a v).draws = s.draws := rfl
@[simp] theorem State.write_events (s : State) (a : Word) (v : Byte) : (s.write a v).events = s.events := rfl
@[simp] theorem State.view_write (s : State) (a : Word) (v : Byte) : (s.write a v).view = s.view := rfl
@[simp] theorem State.other_write (s : State) (a : Word) (v : Byte) : (s.write a v).other = s.other := rfl

/-! ## setIdx -/

@[simp] theorem State.setIdx_prim (s : State) (x : Idx) (v : Word) : (s.setIdx x v).prim = s.prim := by cases x <;> rfl
@[simp] theorem State.setIdx_shad (s : State) (x : Idx) (v : Word) : (s.setIdx x v).shad = s.shad := by cases x <;> rfl
@[simp] theorem State.setIdx_alt (s : State) (x : Idx) (v : Word) : (s.setIdx x v).alt = s.alt := by cases x <;> rfl
@[simp] theorem State.setIdx_i (s : State) (x : Idx) (v : Word) : (s.setIdx x v).i = s.i := by cases x <;> rfl
@[simp] theorem State.setIdx_r (s : State) (x : Idx) (v : Word) : (s.setIdx x v).r = s.r := by cases x <;> rfl
@[simp] theorem State.setIdx_sp (s : State) (x : Idx) (v : Word) : (s.setIdx x v).sp = s.sp := by cases x <;> rfl
@[simp] theorem State.setIdx_pc (s : State) (x : Idx) (v : Word) : (s.setIdx x v).pc = s.pc := by cases x <;> rfl
@[simp] theorem State.setIdx_halted (s : State) (x : Idx) (v : Word) : (s.setIdx x v).halted = s.halted := by cases x <;> rfl
@[simp] theorem State.setIdx_iff1 (s : State) (x : Idx) (v : Word) : (s.setIdx x v).iff1 = s.iff1 := by cases x <;> rfl
@[simp] theorem State.setIdx_iff2 (s : State) (x : Idx) (v : Word) : (s.setIdx x v).iff2 = s.iff2 := by cases x <;> rfl
@[simp] theorem State.setIdx_im (s : State) (x : Idx) (v : Word) : (s.setIdx x v).im = s.im := by cases x <;> rfl
@[simp] theorem State.setIdx_mem (s : State) (x : Idx) (v : Word) : (s.setIdx x v).mem = s.mem := by cases x <;> rfl
@[simp] theorem State.setIdx_params (s : State) (x : Idx) (v : Word) : (s.setIdx x v).params = s.params := by cases x <;> rfl
@[simp] theorem State.setIdx_draws (s : State) (x : Idx) (v : Word) : (s.setIdx x v).draws = s.draws := by cases x <;> rfl
@[simp] theorem State.setIdx_events (s : State) (x : Idx) (v : Word) : (s.setIdx x v).events = s.events := by cases x <;> rfl
@[simp] theorem State.view_setIdx (s : State) (x : Idx) (v : Word) : (s.setIdx x v).view = s.view := by cases x <;> rfl
@[simp] theorem State.other_setIdx (s : State) (x : Idx) (v : Word) : (s.setIdx x v).other = s.other := by cases x <;> rfl

theorem State.getIdx_setIdx (s : State) (x x' : Idx) (v : Word) :
    (s.setIdx x v).getIdx x' = if x' = x then v else s.getIdx x' := by
  cases x <;> cases x' <;> rfl

@[simp] theorem State.getIdx_setIdx_same (s : State) (x : Idx) (v : Word) : (s.setIdx x v).getIdx x = v := by
  cases x <;> rfl

/-! ## The index registers, the cells and the bytes read, under every other update -/

@[simp] theorem State.getIdx_setView (s : State) (k : Bank) (x : Idx) : (s.setView k).getIdx x = s.getIdx x := by
  cases x <;> simp [State.getIdx]
@[simp] theorem State.cell_setView (s : State) (k : Bank) (w : Word) : (s.setView k).cell w = s.cell w := by simp [State.cell]
@[simp] theorem State.read_setView (s : State) (k : Bank) (w : Word) : (s.setView k).read w = s.read w := by simp [State.read]
@[simp] theorem State.getIdx_setOther (s : State) (k : Bank) (x : Idx) : (s.setOther k).getIdx x = s.getIdx x := by
  cases x <;> simp [State.getIdx]
@[simp] theorem State.cell_setOther (s : State) (k : Bank) (w : Word) : (s.setOther k).cell w = s.cell w := by simp [State.cell]
@[simp] theorem State.read_setOther (s : State) (k : Bank) (w : Word) : (s.setOther k).read w = s.read w := by simp [State.read]
@[simp] theorem State.getIdx_setReg (s : State) (g : Reg8) (v : Byte) (x : Idx) : (s.setReg g v).getIdx x = s.getIdx x := by
  cases x <;> simp [State.getIdx]
@[simp] theorem State.cell_setReg (s : State) (g : Reg8) (v : Byte) (w : Word) : (s.setReg g v).cell w = s.cell w := by simp [State.cell]
@[simp] theorem State.read_setReg (s : State) (g : Reg8) (v : Byte) (w : Word) : (s.setReg g v).read w = s.read w := by simp [State.read]
@[simp] theorem State.getIdx_setF (s : State) (v : Byte) (x : Idx) : (s.setF v).getIdx x = s.getIdx x := by
  cases x <;> simp [State.getIdx]
@[simp] theorem State.cell_setF (s : State) (v : Byte) (w : Word) : (s.setF v).cell w = s.cell w := by simp [State.cell]
@[simp] theorem State.read_setF (s : State) (v : Byte) (w : Word) : (s.setF v).read w = s.read w := by simp [State.read]
@[simp] theorem State.getIdx_setBc (s : State) (v : Word) (x : Idx) : (s.setBc v).getIdx x = s.getIdx x := by
  cases x <;> simp [State.getIdx]
@[simp] theorem State.cell_setBc (s : State) (v : Word) (w : Word) : (s.setBc v).cell w = s.cell w := by simp [State.cell]
@[simp] theorem State.read_setBc (s : State) (v : Word) (w : Word) : (s.setBc v).read w = s.read w := by simp [State.read]
@[simp] theorem State.getIdx_setDe (s : State) (v : Word) (x : Idx) : (s.setDe v).getIdx x = s.getIdx x := by
  cases x <;> simp [State.getIdx]
@[simp] theorem State.cell_setDe (s : State) (v : Word) (w : Word) : (s.setDe v).cell w = s.cell w := by simp [State.cell]
@[simp] theorem State.read_setDe (s : State) (v : Word) (w : Word) : (s.setDe v).read w = s.read w := by simp [State.read]
@[simp] theorem State.getIdx_setHl (s : State) (v : Word) (x : Idx) : (s.setHl v).getIdx x = s.getIdx x := by
  cases x <;> simp [State.getIdx]
@[simp] theorem State.cell_setHl (s : State) (v : Word) (w : Word) : (s.setHl v).cell w = s.cell w := by simp [State.cell]
@[simp] theorem State.read_setHl (s : State) (v : Word) (w : Word) : (s.setHl v).read w = s.read w := by simp [State.read]
@[simp] theorem State.getIdx_setAf (s : State) (v : Word) (x : Idx) : (s.setAf v).getIdx x = s.getIdx x := by
  cases x <;> simp [State.getIdx]
@[simp] theorem State.cell_setAf (s : State) (v : Word) (w : Word) : (s.setAf v).cell w = s.cell w := by simp [State.cell]
@[simp] theorem State.read_setAf (s : State) (v : Word) (w : Word) : (s.setAf v).read w = s.read w := by simp [State.read]
@[simp] theorem State.getIdx_assign (s : State) (fl : FlagSet) (x : Idx) : (s.assign fl).getIdx x = s.getIdx x := by
  cases x <;> simp [State.getIdx]
@[simp] theorem State.cell_assign (s : State) (fl : FlagSet) (w : Word) : (s.assign fl).cell w = s.cell w := by simp [State.cell]
@[simp] theorem State.read_assign (s : State) (fl : FlagSet) (w : Word) : (s.assign fl).read w = s.read w := by simp [State.read]
@[simp] theorem State.getIdx_setSp (s : State) (v : Word) (x : Idx) : (s.setSp v).getIdx x = s.getIdx x := by
  cases x <;> rfl
@[simp] theorem State.cell_setSp (s : State) (v : Word) (w : Word) : (s.setSp v).cell w = s.cell w := by simp [State.cell]
@[simp] theorem State.read_setSp (s : State) (v : Word) (w : Word) : (s.setSp v).read w = s.read w := by simp [State.read]
@[simp] theorem State.getIdx_jump (s : State) (v : Word) (x : Idx) : (s.jump v).getIdx x = s.getIdx x := by
  cases x <;> rfl
@[simp] theorem State.cell_jump (s : State) (v : Word) (w : Word) : (s.jump v).cell w = s.cell w := by simp [State.cell]
@[simp] theorem State.read_jump (s : State) (v : Word) (w : Word) : (s.jump v).read w = s.read w := by simp [State.read]
@[simp] theorem State.getIdx_setI (s : State) (v : Byte) (x : Idx) : (s.setI v).getIdx x = s.getIdx x := by
  cases x <;> rfl
@[simp] theorem State.cell_setI (s : State) (v : Byte) (w : Word) : (s.setI v).cell w = s.cell w := by simp [State.cell]
@[simp] theorem State.read_setI (s : State) (v : Byte) (w : Word) : (s.setI v).read w = s.read w := by simp [State.read]
@[simp] theorem State.getIdx_setRefresh (s : State) (v : Byte) (x : Idx) : (s.setRefresh v).getIdx x = s.getIdx x := by
  cases x <;> rfl
@[simp] theorem State.cell_setRefresh (s : State) (v : Byte) (w : Word) : (s.setRefresh v).cell w = s.cell w := by simp [State.cell]
@[simp] theorem State.read_setRefresh (s : State) (v : Byte) (w : Word) : (s.setRefresh v).read w = s.read w := by simp [State.read]
@[simp] theorem State.getIdx_setIff1 (s : State) (v : Bool) (x : Idx) : (s.setIff1 v).getIdx x = s.getIdx x := by
  cases x <;> rfl
@[simp] theorem State.cell_setIff1 (s : State) (v : Bool) (w : Word) : (s.setIff1 v).cell w = s.cell w := by simp [State.cell]
@[simp] theorem State.read_setIff1 (s : State) (v : Bool) (w : Word) : (s.setIff1 v).read w = s.read w := by simp [State.read]
@[simp] theorem State.getIdx_setIff2 (s : State) (v : Bool) (x : Idx) : (s.setIff2 v).getIdx x = s.getIdx x := by
  cases x <;> rfl
@[simp] theorem State.cell_setIff2 (s : State) (v : Bool) (w : Word) : (s.setIff2 v).cell w = s.cell w := by simp [State.cell]
@[simp] theorem State.read_setIff2 (s : State) (v : Bool) (w : Word) : (s.setIff2 v).read w = s.read w := by simp [State.read]
@[simp] theorem State.getIdx_setIm (s : State) (v : IntMode) (x : Idx) : (s.setIm v).getIdx x = s.getIdx x := by
  cases x <;> rfl
@[simp] theorem State.cell_setIm (s : State) (v : IntMode) (w : Word) : (s.setIm v).cell w = s.cell w := by simp [State.cell]
@[simp] theorem State.read_setIm (s : State) (v : IntMode) (w : Word) : (s.setIm v).read w = s.read w := by simp [State.read]
@[simp] theorem State.getIdx_setHalted (s : State) (v : Bool) (x : Idx) : (s.setHalted v).getIdx x = s.getIdx x := by
  cases x <;> rfl
@[simp] theorem State.cell_setHalted (s : State) (v : Bool) (w : Word) : (s.setHalted v).cell w = s.cell w := by simp [State.cell]
@[simp] theorem State.read_setHalted (s : State) (v : Bool) (w : Word) : (s.setHalted v).read w = s.read w := by simp [State.read]
@[simp] theorem State.getIdx_drew (s : State) (x : Idx) : (s.drew).getIdx x = s.getIdx x := by
  cases x <;> rfl
@[simp] theorem State.cell_drew (s : State) (w : Word) : (s.drew).cell w = s.cell w := by simp [State.cell]
@[simp] theorem State.read_drew (s : State) (w : Word) : (s.drew).read w = s.read w := by simp [State.read]
@[simp] theorem State.getIdx_record (s : State) (e : IoEvent) (x : Idx) : (s.record e).getIdx x = s.getIdx x := by
  cases x <;> rfl
@[simp] theorem State.cell_record (s : State) (e : IoEvent) (w : Word) : (s.record e).cell w = s.cell w := by simp [State.cell]
@[simp] theorem State.read_record (s : State) (e : IoEvent) (w : Word) : (s.record e).read w = s.read w := by simp [State.read]
@[simp] theorem State.getIdx_write (s : State) (a : Word) (v : Byte) (x : Idx) : (s.write a v).getIdx x = s.getIdx x := by
  cases x <;> rfl
@[simp] theorem State.cell_write (s : State) (a : Word) (v : Byte) (w : Word) : (s.write a v).cell w = s.cell w := by simp [State.cell]
@[simp] theorem State.cell_setIdx (s : State) (x : Idx) (v : Word) (w : Word) : (s.setIdx x v).cell w = s.cell w := by simp [State.cell]
@[simp] theorem State.read_setIdx (s : State) (x : Idx) (v : Word) (w : Word) : (s.setIdx x v).read w = s.read w := by simp [State.read]

/-! ## Registers of the view -/

theorem Bank.get_set (k : Bank) (g g' : Reg8) (v : Byte) : (k.set g v).get g' = if g' = g then v else k.get g' := by
  cases g <;> cases g' <;> rfl

@[simp] theorem Bank.get_set_same (k : Bank) (g : Reg8) (v : Byte) : (k.set g v).get g = v := by
  cases g <;> rfl

@[simp] theorem Bank.set_f (k : Bank) (g : Reg8) (v : Byte) : (k.set g v).f = k.f := by
  cases g <;> rfl

@[simp] theorem Bank.get_withF (k : Bank) (v : Byte) (g : Reg8) : ({ k with f := v } : Bank).get g = k.get g := by
  cases g <;> rfl

theorem State.getReg_setReg (s : State) (g g' : Reg8) (v : Byte) :
    (s.setReg g v).getReg g' = if g' = g then v else s.getReg g' := by
  simp [State.getReg, Bank.get_set]

@[simp] theorem State.getReg_setReg_same (s : State) (g : Reg8) (v : Byte) : (s.setReg g v).getReg g = v := by
  simp [State.getReg]

@[simp] theorem State.getReg_setF (s : State) (v : Byte) (g : Reg8) : (s.setF v).getReg g = s.getReg g := by
  simp [State.getReg]

@[simp] theorem State.getReg_assign (s : State) (fl : FlagSet) (g : Reg8) : (s.assign fl).getReg g = s.getReg g := by
  simp [State.getReg]

@[simp] theorem State.getF_setReg (s : State) (g : Reg8) (v : Byte) : (s.setReg g v).getF = s.getF := by
  simp [State.getF]

@[simp] theorem State.getF_setF (s : State) (v : Byte) : (s.setF v).getF = v := by
  simp [State.getF]

@[simp] theorem State.getF_assign (s : State) (fl : FlagSet) : (s.assign fl).getF = applyFlags s.getF fl := by
  simp [State.getF]

end Sys2Proof.Machine
end

