-- ==== Sys2Proof/Laws/Views.lean ====
section
/-! SUPPORT. Registers, pairs, flags and index halves after each base update of the state. -/

namespace Sys2Proof.Machine

/-! ## Updates that leave the active view alone -/

@[simp] theorem State.getReg_setOther (s : State) (k : Bank) (g : Reg8) : (s.setOther k).getReg g = s.getReg g := by simp [State.getReg]
@[simp] theorem State.getF_setOther (s : State) (k : Bank) : (s.setOther k).getF = s.getF := by simp [State.getF]
@[simp] theorem State.flag_setOther (s : State) (k : Bank) (g : Flag) : (s.setOther k).flag g = s.flag g := by simp [State.flag]
@[simp] theorem State.bc_setOther (s : State) (k : Bank) : (s.setOther k).bc = s.bc := by simp [State.bc]
@[simp] theorem State.de_setOther (s : State) (k : Bank) : (s.setOther k).de = s.de := by simp [State.de]
@[simp] theorem State.hl_setOther (s : State) (k : Bank) : (s.setOther k).hl = s.hl := by simp [State.hl]
@[simp] theorem State.af_setOther (s : State) (k : Bank) : (s.setOther k).af = s.af := by simp [State.af]
@[simp] theorem State.getReg_setSp (s : State) (v : Word) (g : Reg8) : (s.setSp v).getReg g = s.getReg g := by simp [State.getReg]
@[simp] theorem State.getF_setSp (s : State) (v : Word) : (s.setSp v).getF = s.getF := by simp [State.getF]
@[simp] theorem State.flag_setSp (s : State) (v : Word) (g : Flag) : (s.setSp v).flag g = s.flag g := by simp [State.flag]
@[simp] theorem State.bc_setSp (s : State) (v : Word) : (s.setSp v).bc = s.bc := by simp [State.bc]
@[simp] theorem State.de_setSp (s : State) (v : Word) : (s.setSp v).de = s.de := by simp [State.de]
@[simp] theorem State.hl_setSp (s : State) (v : Word) : (s.setSp v).hl = s.hl := by simp [State.hl]
@[simp] theorem State.af_setSp (s : State) (v : Word) : (s.setSp v).af = s.af := by simp [State.af]
@[simp] theorem State.getReg_jump (s : State) (v : Word) (g : Reg8) : (s.jump v).getReg g = s.getReg g := by simp [State.getReg]
@[simp] theorem State.getF_jump (s : State) (v : Word) : (s.jump v).getF = s.getF := by simp [State.getF]
@[simp] theorem State.flag_jump (s : State) (v : Word) (g : Flag) : (s.jump v).flag g = s.flag g := by simp [State.flag]
@[simp] theorem State.bc_jump (s : State) (v : Word) : (s.jump v).bc = s.bc := by simp [State.bc]
@[simp] theorem State.de_jump (s : State) (v : Word) : (s.jump v).de = s.de := by simp [State.de]
@[simp] theorem State.hl_jump (s : State) (v : Word) : (s.jump v).hl = s.hl := by simp [State.hl]
@[simp] theorem State.af_jump (s : State) (v : Word) : (s.jump v).af = s.af := by simp [State.af]
@[simp] theorem State.getReg_setI (s : State) (v : Byte) (g : Reg8) : (s.setI v).getReg g = s.getReg g := by simp [State.getReg]
@[simp] theorem State.getF_setI (s : State) (v : Byte) : (s.setI v).getF = s.getF := by simp [State.getF]
@[simp] theorem State.flag_setI (s : State) (v : Byte) (g : Flag) : (s.setI v).flag g = s.flag g := by simp [State.flag]
@[simp] theorem State.bc_setI (s : State) (v : Byte) : (s.setI v).bc = s.bc := by simp [State.bc]
@[simp] theorem State.de_setI (s : State) (v : Byte) : (s.setI v).de = s.de := by simp [State.de]
@[simp] theorem State.hl_setI (s : State) (v : Byte) : (s.setI v).hl = s.hl := by simp [State.hl]
@[simp] theorem State.af_setI (s : State) (v : Byte) : (s.setI v).af = s.af := by simp [State.af]
@[simp] theorem State.getReg_setRefresh (s : State) (v : Byte) (g : Reg8) : (s.setRefresh v).getReg g = s.getReg g := by simp [State.getReg]
@[simp] theorem State.getF_setRefresh (s : State) (v : Byte) : (s.setRefresh v).getF = s.getF := by simp [State.getF]
@[simp] theorem State.flag_setRefresh (s : State) (v : Byte) (g : Flag) : (s.setRefresh v).flag g = s.flag g := by simp [State.flag]
@[simp] theorem State.bc_setRefresh (s : State) (v : Byte) : (s.setRefresh v).bc = s.bc := by simp [State.bc]
@[simp] theorem State.de_setRefresh (s : State) (v : Byte) : (s.setRefresh v).de = s.de := by simp [State.de]
@[simp] theorem State.hl_setRefresh (s : State) (v : Byte) : (s.setRefresh v).hl = s.hl := by simp [State.hl]
@[simp] theorem State.af_setRefresh (s : State) (v : Byte) : (s.setRefresh v).af = s.af := by simp [State.af]
@[simp] theorem State.getReg_setIff1 (s : State) (v : Bool) (g : Reg8) : (s.setIff1 v).getReg g = s.getReg g := by simp [State.getReg]
@[simp] theorem State.getF_setIff1 (s : State) (v : Bool) : (s.setIff1 v).getF = s.getF := by simp [State.getF]
@[simp] theorem State.flag_setIff1 (s : State) (v : Bool) (g : Flag) : (s.setIff1 v).flag g = s.flag g := by simp [State.flag]
@[simp] theorem State.bc_setIff1 (s : State) (v : Bool) : (s.setIff1 v).bc = s.bc := by simp [State.bc]
@[simp] theorem State.de_setIff1 (s : State) (v : Bool) : (s.setIff1 v).de = s.de := by simp [State.de]
@[simp] theorem State.hl_setIff1 (s : State) (v : Bool) : (s.setIff1 v).hl = s.hl := by simp [State.hl]
@[simp] theorem State.af_setIff1 (s : State) (v : Bool) : (s.setIff1 v).af = s.af := by simp [State.af]
@[simp] theorem State.getReg_setIff2 (s : State) (v : Bool) (g : Reg8) : (s.setIff2 v).getReg g = s.getReg g := by simp [State.getReg]
@[simp] theorem State.getF_setIff2 (s : State) (v : Bool) : (s.setIff2 v).getF = s.getF := by simp [State.getF]
@[simp] theorem State.flag_setIff2 (s : State) (v : Bool) (g : Flag) : (s.setIff2 v).flag g = s.flag g := by simp [State.flag]
@[simp] theorem State.bc_setIff2 (s : State) (v : Bool) : (s.setIff2 v).bc = s.bc := by simp [State.bc]
@[simp] theorem State.de_setIff2 (s : State) (v : Bool) : (s.setIff2 v).de = s.de := by simp [State.de]
@[simp] theorem State.hl_setIff2 (s : State) (v : Bool) : (s.setIff2 v).hl = s.hl := by simp [State.hl]
@[simp] theorem State.af_setIff2 (s : State) (v : Bool) : (s.setIff2 v).af = s.af := by simp [State.af]
@[simp] theorem State.getReg_setIm (s : State) (v : IntMode) (g : Reg8) : (s.setIm v).getReg g = s.getReg g := by simp [State.getReg]
@[simp] theorem State.getF_setIm (s : State) (v : IntMode) : (s.setIm v).getF = s.getF := by simp [State.getF]
@[simp] theorem State.flag_setIm (s : State) (v : IntMode) (g : Flag) : (s.setIm v).flag g = s.flag g := by simp [State.flag]
@[simp] theorem State.bc_setIm (s : State) (v : IntMode) : (s.setIm v).bc = s.bc := by simp [State.bc]
@[simp] theorem State.de_setIm (s : State) (v : IntMode) : (s.setIm v).de = s.de := by simp [State.de]
@[simp] theorem State.hl_setIm (s : State) (v : IntMode) : (s.setIm v).hl = s.hl := by simp [State.hl]
@[simp] theorem State.af_setIm (s : State) (v : IntMode) : (s.setIm v).af = s.af := by simp [State.af]
@[simp] theorem State.getReg_setHalted (s : State) (v : Bool) (g : Reg8) : (s.setHalted v).getReg g = s.getReg g := by simp [State.getReg]
@[simp] theorem State.getF_setHalted (s : State) (v : Bool) : (s.setHalted v).getF = s.getF := by simp [State.getF]
@[simp] theorem State.flag_setHalted (s : State) (v : Bool) (g : Flag) : (s.setHalted v).flag g = s.flag g := by simp [State.flag]
@[simp] theorem State.bc_setHalted (s : State) (v : Bool) : (s.setHalted v).bc = s.bc := by simp [State.bc]
@[simp] theorem State.de_setHalted (s : State) (v : Bool) : (s.setHalted v).de = s.de := by simp [State.de]
@[simp] theorem State.hl_setHalted (s : State) (v : Bool) : (s.setHalted v).hl = s.hl := by simp [State.hl]
@[simp] theorem State.af_setHalted (s : State) (v : Bool) : (s.setHalted v).af = s.af := by simp [State.af]
@[simp] theorem State.getReg_drew (s : State) (g : Reg8) : s.drew.getReg g = s.getReg g := by simp [State.getReg]
@[simp] theorem State.getF_drew (s : State) : s.drew.getF = s.getF := by simp [State.getF]
@[simp] theorem State.flag_drew (s : State) (g : Flag) : s.drew.flag g = s.flag g := by simp [State.flag]
@[simp] theorem State.bc_drew (s : State) : s.drew.bc = s.bc := by simp [State.bc]
@[simp] theorem State.de_drew (s : State) : s.drew.de = s.de := by simp [State.de]
@[simp] theorem State.hl_drew (s : State) : s.drew.hl = s.hl := by simp [State.hl]
@[simp] theorem State.af_drew (s : State) : s.drew.af = s.af := by simp [State.af]
@[simp] theorem State.getReg_record (s : State) (e : IoEvent) (g : Reg8) : (s.record e).getReg g = s.getReg g := by simp [State.getReg]
@[simp] theorem State.getF_record (s : State) (e : IoEvent) : (s.record e).getF = s.getF := by simp [State.getF]
@[simp] theorem State.flag_record (s : State) (e : IoEvent) (g : Flag) : (s.record e).flag g = s.flag g := by simp [State.flag]
@[simp] theorem State.bc_record (s : State) (e : IoEvent) : (s.record e).bc = s.bc := by simp [State.bc]
@[simp] theorem State.de_record (s : State) (e : IoEvent) : (s.record e).de = s.de := by simp [State.de]
@[simp] theorem State.hl_record (s : State) (e : IoEvent) : (s.record e).hl = s.hl := by simp [State.hl]
@[simp] theorem State.af_record (s : State) (e : IoEvent) : (s.record e).af = s.af := by simp [State.af]
@[simp] theorem State.getReg_write (s : State) (w : Word) (v : Byte) (g : Reg8) : (s.write w v).getReg g = s.getReg g := by simp [State.getReg]
@[simp] theorem State.getF_write (s : State) (w : Word) (v : Byte) : (s.write w v).getF = s.getF := by simp [State.getF]
@[simp] theorem State.flag_write (s : State) (w : Word) (v : Byte) (g : Flag) : (s.write w v).flag g = s.flag g := by simp [State.flag]
@[simp] theorem State.bc_write (s : State) (w : Word) (v : Byte) : (s.write w v).bc = s.bc := by simp [State.bc]
@[simp] theorem State.de_write (s : State) (w : Word) (v : Byte) : (s.write w v).de = s.de := by simp [State.de]
@[simp] theorem State.hl_write (s : State) (w : Word) (v : Byte) : (s.write w v).hl = s.hl := by simp [State.hl]
@[simp] theorem State.af_write (s : State) (w : Word) (v : Byte) : (s.write w v).af = s.af := by simp [State.af]
@[simp] theorem State.getReg_setIdx (s : State) (x : Idx) (v : Word) (g : Reg8) : (s.setIdx x v).getReg g = s.getReg g := by simp [State.getReg]
@[simp] theorem State.getF_setIdx (s : State) (x : Idx) (v : Word) : (s.setIdx x v).getF = s.getF := by simp [State.getF]
@[simp] theorem State.flag_setIdx (s : State) (x : Idx) (v : Word) (g : Flag) : (s.setIdx x v).flag g = s.flag g := by simp [State.flag]
@[simp] theorem State.bc_setIdx (s : State) (x : Idx) (v : Word) : (s.setIdx x v).bc = s.bc := by simp [State.bc]
@[simp] theorem State.de_setIdx (s : State) (x : Idx) (v : Word) : (s.setIdx x v).de = s.de := by simp [State.de]
@[simp] theorem State.hl_setIdx (s : State) (x : Idx) (v : Word) : (s.setIdx x v).hl = s.hl := by simp [State.hl]
@[simp] theorem State.af_setIdx (s : State) (x : Idx) (v : Word) : (s.setIdx x v).af = s.af := by simp [State.af]

/-! ## Pairs as two registers -/

theorem State.bc_eq (s : State) : s.bc = concat (s.getReg .b) (s.getReg .c) := rfl
theorem State.de_eq (s : State) : s.de = concat (s.getReg .d) (s.getReg .e) := rfl
theorem State.hl_eq (s : State) : s.hl = concat (s.getReg .h) (s.getReg .l) := rfl
theorem State.af_eq (s : State) : s.af = concat (s.getReg .a) s.getF := rfl

/-! ## Updates of the active view -/

theorem State.getReg_setBc (s : State) (v : Word) (g : Reg8) :
    (s.setBc v).getReg g = if g = .b then hi8 v else if g = .c then lo8 v else s.getReg g := by
  cases g <;> simp [State.getReg, Bank.get]
@[simp] theorem State.getF_setBc (s : State) (v : Word) : (s.setBc v).getF = s.getF := by simp [State.getF]
@[simp] theorem State.flag_setBc (s : State) (v : Word) (g : Flag) : (s.setBc v).flag g = s.flag g := by
  simp [State.flag]
@[simp] theorem State.bc_setBc (s : State) (v : Word) : (s.setBc v).bc = v := by simp [State.bc]
@[simp] theorem State.de_setBc (s : State) (v : Word) : (s.setBc v).de = s.de := by simp [State.de]
@[simp] theorem State.hl_setBc (s : State) (v : Word) : (s.setBc v).hl = s.hl := by simp [State.hl]
theorem State.getReg_setDe (s : State) (v : Word) (g : Reg8) :
    (s.setDe v).getReg g = if g = .d then hi8 v else if g = .e then lo8 v else s.getReg g := by
  cases g <;> simp [State.getReg, Bank.get]
@[simp] theorem State.getF_setDe (s : State) (v : Word) : (s.setDe v).getF = s.getF := by simp [State.getF]
@[simp] theorem State.flag_setDe (s : State) (v : Word) (g : Flag) : (s.setDe v).flag g = s.flag g := by
  simp [State.flag]
@[simp] theorem State.bc_setDe (s : State) (v : Word) : (s.setDe v).bc = s.bc := by simp [State.bc]
@[simp] theorem State.de_setDe (s : State) (v : Word) : (s.setDe v).de = v := by simp [State.de]
@[simp] theorem State.hl_setDe (s : State) (v : Word) : (s.setDe v).hl = s.hl := by simp [State.hl]
theorem State.getReg_setHl (s : State) (v : Word) (g : Reg8) :
    (s.setHl v).getReg g = if g = .h then hi8 v else if g = .l then lo8 v else s.getReg g := by
  cases g <;> simp [State.getReg, Bank.get]
@[simp] theorem State.getF_setHl (s : State) (v : Word) : (s.setHl v).getF = s.getF := by simp [State.getF]
@[simp] theorem State.flag_setHl (s : State) (v : Word) (g : Flag) : (s.setHl v).flag g = s.flag g := by
  simp [State.flag]
@[simp] theorem State.bc_setHl (s : State) (v : Word) : (s.setHl v).bc = s.bc := by simp [State.bc]
@[simp] theorem State.de_setHl (s : State) (v : Word) : (s.setHl v).de = s.de := by simp [State.de]
@[simp] theorem State.hl_setHl (s : State) (v : Word) : (s.setHl v).hl = v := by simp [State.hl]
theorem State.getReg_setAf (s : State) (v : Word) (g : Reg8) :
    (s.setAf v).getReg g = if g = .a then hi8 v else s.getReg g := by
  cases g <;> simp [State.getReg, Bank.get]
@[simp] theorem State.getF_setAf (s : State) (v : Word) : (s.setAf v).getF = lo8 v := by simp [State.getF]
@[simp] theorem State.af_setAf (s : State) (v : Word) : (s.setAf v).af = v := by simp [State.af]
@[simp] theorem State.bc_setAf (s : State) (v : Word) : (s.setAf v).bc = s.bc := by simp [State.bc]
@[simp] theorem State.de_setAf (s : State) (v : Word) : (s.setAf v).de = s.de := by simp [State.de]
@[simp] theorem State.hl_setAf (s : State) (v : Word) : (s.setAf v).hl = s.hl := by simp [State.hl]

@[simp] theorem State.flag_setReg (s : State) (g : Reg8) (v : Byte) (k : Flag) :
    (s.setReg g v).flag k = s.flag k := by simp [State.flag]
@[simp] theorem State.bc_assign (s : State) (fl : FlagSet) : (s.assign fl).bc = s.bc := by simp [State.bc]
@[simp] theorem State.de_assign (s : State) (fl : FlagSet) : (s.assign fl).de = s.de := by simp [State.de]
@[simp] theorem State.hl_assign (s : State) (fl : FlagSet) : (s.assign fl).hl = s.hl := by simp [State.hl]

/-- A flag of a changed F (R110): the assigned value, or the old one where the assignment does not list it. -/
@[simp] theorem State.flag_assign (s : State) (fl : FlagSet) (g : Flag) :
    (s.assign fl).flag g = (fl.get g).getD (s.flag g) := by
  simp only [State.flag, State.getF_assign, applyFlags, byteOf_getLsbD]
  cases g <;> rfl

/-! ## Index halves -/

/-- IX is its two halves (R22, R36). -/
theorem State.getIdx_eq (s : State) (x : Idx) : s.getIdx x = concat (s.getHalf x .high) (s.getHalf x .low) := by
  simp [State.getHalf]

theorem State.getHalf_setIdx (s : State) (x x' : Idx) (v : Word) (w : Half) :
    (s.setIdx x v).getHalf x' w =
      if x' = x then (match w with | .high => hi8 v | .low => lo8 v) else s.getHalf x' w := by
  cases w <;> simp only [State.getHalf, State.getIdx_setIdx] <;> split <;> rfl

theorem State.getHalf_setHalf (s : State) (x x' : Idx) (w w' : Half) (v : Byte) :
    (s.setHalf x w v).getHalf x' w' = if x' = x ∧ w' = w then v else s.getHalf x' w' := by
  cases w <;> cases w' <;> simp only [State.setHalf, State.getHalf_setIdx] <;>
    by_cases h : x' = x <;> simp [h, State.getHalf]

@[simp] theorem State.getHalf_setOther (s : State) (k : Bank) (x : Idx) (h : Half) : (s.setOther k).getHalf x h = s.getHalf x h := by
  cases h <;> simp [State.getHalf]
@[simp] theorem State.getHalf_setSp (s : State) (v : Word) (x : Idx) (h : Half) : (s.setSp v).getHalf x h = s.getHalf x h := by
  cases h <;> simp [State.getHalf]
@[simp] theorem State.getHalf_jump (s : State) (v : Word) (x : Idx) (h : Half) : (s.jump v).getHalf x h = s.getHalf x h := by
  cases h <;> simp [State.getHalf]
@[simp] theorem State.getHalf_setI (s : State) (v : Byte) (x : Idx) (h : Half) : (s.setI v).getHalf x h = s.getHalf x h := by
  cases h <;> simp [State.getHalf]
@[simp] theorem State.getHalf_setRefresh (s : State) (v : Byte) (x : Idx) (h : Half) : (s.setRefresh v).getHalf x h = s.getHalf x h := by
  cases h <;> simp [State.getHalf]
@[simp] theorem State.getHalf_setIff1 (s : State) (v : Bool) (x : Idx) (h : Half) : (s.setIff1 v).getHalf x h = s.getHalf x h := by
  cases h <;> simp [State.getHalf]
@[simp] theorem State.getHalf_setIff2 (s : State) (v : Bool) (x : Idx) (h : Half) : (s.setIff2 v).getHalf x h = s.getHalf x h := by
  cases h <;> simp [State.getHalf]
@[simp] theorem State.getHalf_setIm (s : State) (v : IntMode) (x : Idx) (h : Half) : (s.setIm v).getHalf x h = s.getHalf x h := by
  cases h <;> simp [State.getHalf]
@[simp] theorem State.getHalf_setHalted (s : State) (v : Bool) (x : Idx) (h : Half) : (s.setHalted v).getHalf x h = s.getHalf x h := by
  cases h <;> simp [State.getHalf]
@[simp] theorem State.getHalf_drew (s : State) (x : Idx) (h : Half) : s.drew.getHalf x h = s.getHalf x h := by
  cases h <;> simp [State.getHalf]
@[simp] theorem State.getHalf_record (s : State) (e : IoEvent) (x : Idx) (h : Half) : (s.record e).getHalf x h = s.getHalf x h := by
  cases h <;> simp [State.getHalf]
@[simp] theorem State.getHalf_write (s : State) (w : Word) (v : Byte) (x : Idx) (h : Half) : (s.write w v).getHalf x h = s.getHalf x h := by
  cases h <;> simp [State.getHalf]
@[simp] theorem State.getHalf_setView (s : State) (k : Bank) (x : Idx) (h : Half) : (s.setView k).getHalf x h = s.getHalf x h := by
  cases h <;> simp [State.getHalf]
@[simp] theorem State.getHalf_setReg (s : State) (g : Reg8) (v : Byte) (x : Idx) (h : Half) : (s.setReg g v).getHalf x h = s.getHalf x h := by
  cases h <;> simp [State.getHalf]
@[simp] theorem State.getHalf_setF (s : State) (v : Byte) (x : Idx) (h : Half) : (s.setF v).getHalf x h = s.getHalf x h := by
  cases h <;> simp [State.getHalf]
@[simp] theorem State.getHalf_setBc (s : State) (v : Word) (x : Idx) (h : Half) : (s.setBc v).getHalf x h = s.getHalf x h := by
  cases h <;> simp [State.getHalf]
@[simp] theorem State.getHalf_setDe (s : State) (v : Word) (x : Idx) (h : Half) : (s.setDe v).getHalf x h = s.getHalf x h := by
  cases h <;> simp [State.getHalf]
@[simp] theorem State.getHalf_setHl (s : State) (v : Word) (x : Idx) (h : Half) : (s.setHl v).getHalf x h = s.getHalf x h := by
  cases h <;> simp [State.getHalf]
@[simp] theorem State.getHalf_setAf (s : State) (v : Word) (x : Idx) (h : Half) : (s.setAf v).getHalf x h = s.getHalf x h := by
  cases h <;> simp [State.getHalf]
@[simp] theorem State.getHalf_assign (s : State) (fl : FlagSet) (x : Idx) (h : Half) : (s.assign fl).getHalf x h = s.getHalf x h := by
  cases h <;> simp [State.getHalf]

end Sys2Proof.Machine
end

