-- ==== Sys2Proof/Laws/Flags.lean ====
section
/-! SUPPORT. What each ALU function of Machine/Flags.lean computes, in sums, remainders and comparisons. -/

namespace Sys2Proof.Machine

/-! ## Bits as numbers -/

theorem byte_bit7 (v : Byte) : v.getLsbD 7 = decide (128 ≤ v.toNat) := by
  rw [← show v.msb = v.getLsbD 7 from BitVec.msb_eq_getLsbD_last v]; exact BitVec.msb_eq_decide v

theorem word_bit15 (v : Word) : v.getLsbD 15 = decide (32768 ≤ v.toNat) := by
  rw [← show v.msb = v.getLsbD 15 from BitVec.msb_eq_getLsbD_last v]; exact BitVec.msb_eq_decide v

theorem byte_toInt (v : Byte) : v.toInt = if 128 ≤ v.toNat then (v.toNat : Int) - 256 else v.toNat := by
  have := v.isLt
  rw [BitVec.toInt_eq_toNat_cond]; split <;> split <;> omega

theorem word_toInt (v : Word) : v.toInt = if 32768 ≤ v.toNat then (v.toNat : Int) - 65536 else v.toNat := by
  have := v.isLt
  rw [BitVec.toInt_eq_toNat_cond]; split <;> split <;> omega

/-- The sign-change form of overflow, in sign bits (R115). -/
theorem signs_add {w : Nat} (a b r : BitVec w) {k : Nat} (hk : k < w) :
    (~~~(a ^^^ b) &&& (a ^^^ r)).getLsbD k = (a.getLsbD k == b.getLsbD k && a.getLsbD k != r.getLsbD k) := by
  simp only [BitVec.getLsbD_and, BitVec.getLsbD_not, BitVec.getLsbD_xor, hk, decide_true]
  cases a.getLsbD k <;> cases b.getLsbD k <;> cases r.getLsbD k <;> rfl

theorem signs_sub {w : Nat} (a b r : BitVec w) (k : Nat) :
    ((a ^^^ b) &&& (a ^^^ r)).getLsbD k = (a.getLsbD k != b.getLsbD k && a.getLsbD k != r.getLsbD k) := by
  simp only [BitVec.getLsbD_and, BitVec.getLsbD_xor]

theorem byte_bit0 (v : Byte) : v.getLsbD 0 = decide (v.toNat % 2 = 1) := by
  simp [BitVec.getLsbD, Nat.testBit_zero]

theorem byte_eq_zero (v : Byte) : (v == 0) = decide (v.toNat = 0) := by
  rw [Bool.eq_iff_iff]; simp [BitVec.toNat_eq]

theorem word_eq_zero (v : Word) : (v == 0) = decide (v.toNat = 0) := by
  rw [Bool.eq_iff_iff]; simp [BitVec.toNat_eq]

theorem parity_eq_evenOnes (v : Byte) : parity v = evenOnes v := by
  revert v; decide +kernel

theorem lowNibble_toNat (v : Byte) : (v &&& 0x0F).toNat = v.toNat % 16 := by
  rw [BitVec.toNat_and]; exact Nat.and_two_pow_sub_one_eq_mod v.toNat 4

/-- Two nibbles joined. -/
theorem nibbles_toNat (h l : BitVec 4) : (h ++ l : BitVec 8).toNat = h.toNat * 16 + l.toNat := by
  revert h l; decide +kernel

theorem nibbles_getLsbD (h l : BitVec 4) (i : Nat) :
    (h ++ l : BitVec 8).getLsbD i = if i < 4 then l.getLsbD i else h.getLsbD (i - 4) := by
  rw [show (h ++ l : BitVec 8).getLsbD i = (BitVec.append h l).getLsbD i from rfl]
  exact BitVec.getLsbD_append

theorem highNibble_or_low (a v : Byte) : ((a &&& 0xF0) ||| (v &&& 0x0F)).toNat = a.toNat / 16 * 16 + v.toNat % 16 := by
  have := a.isLt
  rw [show (a &&& 0xF0) ||| (v &&& 0x0F) = (a.extractLsb' 4 4 ++ v.extractLsb' 0 4 : BitVec 8) by
    apply BitVec.eq_of_getLsbD_eq; intro i hi; rw [nibbles_getLsbD]; interval_cases i <;> simp, nibbles_toNat]
  simp [BitVec.extractLsb'_toNat, Nat.shiftRight_eq_div_pow]; omega

theorem highNibble_or_high (a v : Byte) : ((a &&& 0xF0) ||| (v >>> 4)).toNat = a.toNat / 16 * 16 + v.toNat / 16 := by
  have := a.isLt
  have := v.isLt
  rw [show (a &&& 0xF0) ||| (v >>> 4) = (a.extractLsb' 4 4 ++ v.extractLsb' 4 4 : BitVec 8) by
    apply BitVec.eq_of_getLsbD_eq; intro i hi; rw [nibbles_getLsbD]; interval_cases i <;> simp, nibbles_toNat]
  simp [BitVec.extractLsb'_toNat, Nat.shiftRight_eq_div_pow]; omega

theorem lowNibble_up_or_high (a v : Byte) :
    (((a &&& 0x0F) <<< 4) ||| (v >>> 4)).toNat = a.toNat % 16 * 16 + v.toNat / 16 := by
  have := v.isLt
  rw [show ((a &&& 0x0F) <<< 4) ||| (v >>> 4) = (a.extractLsb' 0 4 ++ v.extractLsb' 4 4 : BitVec 8) by
    apply BitVec.eq_of_getLsbD_eq; intro i hi; rw [nibbles_getLsbD]; interval_cases i <;> simp, nibbles_toNat]
  simp [BitVec.extractLsb'_toNat, Nat.shiftRight_eq_div_pow]; omega

theorem up_or_lowNibble (a v : Byte) : ((v <<< 4) ||| (a &&& 0x0F)).toNat = v.toNat % 16 * 16 + a.toNat % 16 := by
  rw [show (v <<< 4) ||| (a &&& 0x0F) = (v.extractLsb' 0 4 ++ a.extractLsb' 0 4 : BitVec 8) by
    apply BitVec.eq_of_getLsbD_eq; intro i hi; rw [nibbles_getLsbD]; interval_cases i <;> simp, nibbles_toNat]
  simp [BitVec.extractLsb'_toNat]

/-! ## Carries -/

/-- The carry into bit k of a sum, read off its operands and its result (R113). -/
theorem carry_into {w : Nat} (a b : BitVec w) (c : Bool) {k : Nat} (hk : k < w) :
    (a ^^^ b ^^^ BitVec.ofNat w (a.toNat + b.toNat + c.toNat)).getLsbD k =
      decide (2 ^ k ≤ a.toNat % 2 ^ k + b.toNat % 2 ^ k + c.toNat) := by
  have hw : 1 < 2 ^ w := Nat.one_lt_two_pow (by omega)
  have hs : BitVec.ofNat w (a.toNat + b.toNat + c.toNat) = a + b + BitVec.setWidth w (BitVec.ofBool c) := by
    apply BitVec.eq_of_toNat_eq
    cases c <;> simp [BitVec.toNat_add, Nat.mod_eq_of_lt hw]
  rw [hs, BitVec.getLsbD_xor, BitVec.getLsbD_xor, BitVec.getLsbD_add_add_bool hk]
  cases a.getLsbD k <;> cases b.getLsbD k <;> simp [BitVec.carry]

/-- The borrow into bit k of a difference, read off its operands and its result (R113). -/
theorem borrow_into {w : Nat} (a b : BitVec w) (c : Bool) {k : Nat} (hk : k < w) :
    (a ^^^ b ^^^ BitVec.ofInt w ((a.toNat : Int) - b.toNat - c.toNat)).getLsbD k =
      decide (a.toNat % 2 ^ k < b.toNat % 2 ^ k + c.toNat) := by
  have hw : 1 < 2 ^ w := Nat.one_lt_two_pow (by omega)
  generalize hr : BitVec.ofInt w ((a.toNat : Int) - b.toNat - c.toNat) = r
  have ha : a = r + b + BitVec.setWidth w (BitVec.ofBool c) := by
    subst hr
    have hc : BitVec.setWidth w (BitVec.ofBool c) = BitVec.ofInt w c.toNat := by
      apply BitVec.eq_of_toNat_eq
      cases c <;> simp
    have hb : b = BitVec.ofInt w b.toNat := by simp
    calc a = BitVec.ofInt w ((a.toNat : Int) - b.toNat - c.toNat + b.toNat + c.toNat) := by
          rw [show ((a.toNat : Int) - b.toNat - c.toNat + b.toNat + c.toNat) = a.toNat by omega]; simp
      _ = _ := by rw [BitVec.ofInt_add, BitVec.ofInt_add, ← hb, hc]
  have hm : a.toNat % 2 ^ k = (r.toNat % 2 ^ k + b.toNat % 2 ^ k + c.toNat) % 2 ^ k := by
    have h2 : 2 ^ k ∣ 2 ^ w := Nat.pow_dvd_pow 2 (by omega)
    have hc : (BitVec.setWidth w (BitVec.ofBool c)).toNat = c.toNat := by
      cases c <;> simp [Nat.mod_eq_of_lt hw]
    rw [ha, BitVec.toNat_add, BitVec.toNat_add, hc, Nat.mod_mod_of_dvd _ h2, Nat.add_mod,
      Nat.mod_mod_of_dvd _ h2, ← Nat.add_mod]
    simp [Nat.add_mod]
  have hx : (a ^^^ b ^^^ r).getLsbD k = decide (2 ^ k ≤ r.toNat % 2 ^ k + b.toNat % 2 ^ k + c.toNat) := by
    conv_lhs => rw [ha]
    rw [BitVec.getLsbD_xor, BitVec.getLsbD_xor, BitVec.getLsbD_add_add_bool hk]
    cases r.getLsbD k <;> cases b.getLsbD k <;> simp [BitVec.carry]
  rw [hx, hm]
  have hp : 0 < 2 ^ k := Nat.two_pow_pos k
  have h1 := Nat.mod_lt r.toNat hp
  have h2 := Nat.mod_lt b.toNat hp
  have h3 : c.toNat ≤ 1 := by cases c <;> simp
  generalize 2 ^ k = M at *
  generalize r.toNat % M = x at *
  generalize b.toNat % M = y at *
  rw [decide_eq_decide]
  constructor
  · intro h
    rw [Nat.mod_eq_sub_mod h, Nat.mod_eq_of_lt (by omega)]; omega
  · intro h
    by_contra hn
    rw [Nat.mod_eq_of_lt (by omega)] at h; omega

/-! ## Addition and subtraction -/

theorem add8_result (a b : Byte) (c : Bool) : (add8 a b c).1.toNat = (a.toNat + b.toNat + c.toNat) % 256 := by
  simp [add8]

theorem sub8_result (a b : Byte) (c : Bool) :
    ((sub8 a b c).1.toNat : Int) = ((a.toNat : Int) - b.toNat - c.toNat) % 256 := by
  simp only [sub8, BitVec.toNat_ofInt]; omega

theorem add8_half (a b : Byte) (c : Bool) :
    (add8 a b c).2.h = some (decide (15 < a.toNat % 16 + b.toNat % 16 + c.toNat)) := by
  simp only [add8]
  rw [carry_into a b c (by decide)]
  rfl

theorem sub8_half (a b : Byte) (c : Bool) :
    (sub8 a b c).2.h = some (decide (a.toNat % 16 < b.toNat % 16 + c.toNat)) := by
  simp only [sub8]
  rw [borrow_into a b c (by decide)]
  rfl

theorem add8_overflow (a b : Byte) (c : Bool) :
    (add8 a b c).2.pv = some (overflows8 (a.toInt + b.toInt + c.toNat)) := by
  have ha := a.isLt
  have hb := b.isLt
  have hc : c.toNat ≤ 1 := by cases c <;> simp
  have hr := add8_result a b c
  simp only [add8] at hr ⊢
  rw [signs_add _ _ _ (by decide)]
  simp only [byte_bit7, hr, overflows8, byte_toInt, Option.some.injEq]
  rw [Bool.eq_iff_iff]
  by_cases h1 : 128 ≤ a.toNat <;> by_cases h2 : 128 ≤ b.toNat <;> simp [h1, h2] <;> omega

theorem sub8_overflow (a b : Byte) (c : Bool) :
    (sub8 a b c).2.pv = some (overflows8 (a.toInt - b.toInt - c.toNat)) := by
  have ha := a.isLt
  have hb := b.isLt
  have hc : c.toNat ≤ 1 := by cases c <;> simp
  have hr := sub8_result a b c
  simp only [sub8] at hr ⊢
  rw [signs_sub]
  simp only [byte_bit7, overflows8, byte_toInt, Option.some.injEq]
  rw [Bool.eq_iff_iff]
  by_cases h1 : 128 ≤ a.toNat <;> by_cases h2 : 128 ≤ b.toNat <;> simp [h1, h2] <;> omega

theorem adc16_result (a b : Word) (c : Bool) :
    (adc16 a b c).1.toNat = (a.toNat + b.toNat + c.toNat) % 65536 := by
  simp [adc16]

theorem sbc16_result (a b : Word) (c : Bool) :
    ((sbc16 a b c).1.toNat : Int) = ((a.toNat : Int) - b.toNat - c.toNat) % 65536 := by
  simp only [sbc16, BitVec.toNat_ofInt]; omega

theorem add16_half (a b : Word) :
    (add16 a b).2.h = some (decide (4095 < a.toNat % 4096 + b.toNat % 4096)) := by
  have h := carry_into a b false (k := 12) (by decide)
  simp only [Bool.toNat_false, Nat.add_zero] at h
  simp only [add16]
  rw [h]; rfl

theorem adc16_half (a b : Word) (c : Bool) :
    (adc16 a b c).2.h = some (decide (4095 < a.toNat % 4096 + b.toNat % 4096 + c.toNat)) := by
  simp only [adc16]
  rw [carry_into a b c (by decide)]
  rfl

theorem sbc16_half (a b : Word) (c : Bool) :
    (sbc16 a b c).2.h = some (decide (a.toNat % 4096 < b.toNat % 4096 + c.toNat)) := by
  simp only [sbc16]
  rw [borrow_into a b c (by decide)]
  rfl

theorem adc16_overflow (a b : Word) (c : Bool) :
    (adc16 a b c).2.pv = some (overflows16 (a.toInt + b.toInt + c.toNat)) := by
  have ha := a.isLt
  have hb := b.isLt
  have hc : c.toNat ≤ 1 := by cases c <;> simp
  have hr := adc16_result a b c
  simp only [adc16] at hr ⊢
  rw [signs_add _ _ _ (by decide)]
  simp only [word_bit15, hr, overflows16, word_toInt, Option.some.injEq]
  rw [Bool.eq_iff_iff]
  by_cases h1 : 32768 ≤ a.toNat <;> by_cases h2 : 32768 ≤ b.toNat <;> simp [h1, h2] <;> omega

theorem sbc16_overflow (a b : Word) (c : Bool) :
    (sbc16 a b c).2.pv = some (overflows16 (a.toInt - b.toInt - c.toNat)) := by
  have ha := a.isLt
  have hb := b.isLt
  have hc : c.toNat ≤ 1 := by cases c <;> simp
  have hr := sbc16_result a b c
  simp only [sbc16] at hr ⊢
  rw [signs_sub]
  simp only [word_bit15, overflows16, word_toInt, Option.some.injEq]
  rw [Bool.eq_iff_iff]
  by_cases h1 : 32768 ≤ a.toNat <;> by_cases h2 : 32768 ≤ b.toNat <;> simp [h1, h2] <;> omega

/-! ## INC, DEC, CP and DAA -/

/-- An assignment made from SZYX(v) gives the four flags of v. -/
theorem szyx_flags (v : Byte) :
    szyx v = {
      s := some (decide (128 ≤ v.toNat))
      z := some (decide (v.toNat = 0))
      y := some (v.getLsbD 5)
      x := some (v.getLsbD 3) } := by
  simp only [szyx, byte_bit7, byte_eq_zero]

theorem inc8_half (v : Byte) : (inc8 v).2.h = some (decide (v.toNat % 16 = 15)) := by
  revert v; decide +kernel

theorem dec8_half (v : Byte) : (dec8 v).2.h = some (decide (v.toNat % 16 = 0)) := by
  revert v; decide +kernel

theorem sub8_borrow (a b : Byte) (c : Bool) : (sub8 a b c).2.c = some (decide (a.toNat < b.toNat + c.toNat)) := by
  simp only [sub8, Option.some.injEq, decide_eq_decide]; omega

theorem cp8_sign (a b : Byte) : (cp8 a b).s = some (decide (128 ≤ (a.toNat + 256 - b.toNat) % 256)) := by
  have h := sub8_result a b false
  have := a.isLt
  have := b.isLt
  simp [cp8, sub8, szyx_flags] at h ⊢
  omega

theorem cp8_zero (a b : Byte) : (cp8 a b).z = some (decide (a = b)) := by
  have h := sub8_result a b false
  have := a.isLt
  have := b.isLt
  simp [cp8, sub8, szyx_flags, BitVec.toNat_eq] at h ⊢
  omega

/-- NEG in numbers (R135). -/
theorem neg_spec (a : Byte) :
    (sub8 0 a false).1.toNat = (256 - a.toNat) % 256 ∧
      (sub8 0 a false).2.h = some (decide (a.toNat % 16 ≠ 0)) ∧
      (sub8 0 a false).2.pv = some (decide (a.toNat = 128)) ∧
      (sub8 0 a false).2.c = some (decide (a.toNat ≠ 0)) := by
  revert a; decide +kernel

theorem cpl_result (a : Byte) : (cpl a).1.toNat = 255 - a.toNat := by
  revert a; decide +kernel

/-- DAA in numbers (R131). -/
theorem daa_spec (a : Byte) (n h c : Bool) :
    (daa a n h c).1.toNat =
        (let corr := (if h || decide (9 < a.toNat % 16) then 6 else 0) +
          (if c || decide (0x99 < a.toNat) then 0x60 else 0)
         if n then (a.toNat + 256 - corr) % 256 else (a.toNat + corr) % 256) ∧
      (daa a n h c).2.h = some (if n then h && decide (a.toNat % 16 < 6) else decide (9 < a.toNat % 16)) ∧
      (daa a n h c).2.c = some (c || decide (0x99 < a.toNat)) := by
  revert a n h c; decide +kernel

/-! ## Flags from a result -/

/-- A rotate or shift computes rot[y]: its result and the bit shifted out (R129). -/
def rotFnOf : Rot → RotFn
  | .rlc => rlc | .rrc => rrc | .rl => rl | .rr => rr | .sla => sla | .sra => sra | .sll => sll | .srl => srl

theorem rot_result (f : Rot) (v : Byte) (c : Bool) :
    (rotFnOf f v c).1.toNat = f.result v.toNat c.toNat := by
  revert v c; cases f <;> decide +kernel

theorem rot_out (f : Rot) (v : Byte) (c : Bool) : (rotFnOf f v c).2 = f.out v.toNat := by
  revert v c; cases f <;> decide +kernel

/-- A bit of `v & ~(1 << b)` and of `v | (1 << b)`. -/
theorem clearBit_getLsbD (v : Byte) (b : BitVec 3) (k : Nat) (hk : k < 8) :
    (v &&& ~~~(bitMask b)).getLsbD k = if k = b.toNat then false else v.getLsbD k := by
  simp only [bitMask, BitVec.getLsbD_and, BitVec.getLsbD_not, BitVec.getLsbD_shiftLeft, hk]
  by_cases h : k = b.toNat
  · simp [h]
  · simp [h]; omega

theorem setBit_getLsbD (v : Byte) (b : BitVec 3) (k : Nat) (hk : k < 8) :
    (v ||| bitMask b).getLsbD k = if k = b.toNat then true else v.getLsbD k := by
  simp only [bitMask, BitVec.getLsbD_or, BitVec.getLsbD_shiftLeft, hk]
  by_cases h : k = b.toNat
  · simp [h]
  · simp [h]; omega

end Sys2Proof.Machine
end

