-- ==== Sys2Proof/Laws/Memory.lean ====
section
/-! SUPPORT. The laws of the memory list: a read after a write, and the canonical form that every write keeps. The read
laws need no canonical form, so they hold in every state. -/

namespace Sys2Proof.Machine

@[simp] theorem Memory.get_nil (a : Nat) : Memory.get [] a = 0 := rfl

theorem Memory.get_erase (m : List Host.Cell) (a b : Nat) :
    Memory.get (Memory.erase m a) b = if b = a then 0 else Memory.get m b := by
  induction m with
  | nil => simp [Memory.erase]
  | cons c rest ih =>
    obtain ⟨k, v⟩ := c
    by_cases hk : k = a
    · subst hk
      by_cases hb : b = k
      · subst hb; simpa [Memory.erase] using ih
      · simp [Memory.erase, Memory.get, ih, hb, Ne.symm hb]
    · simp only [Memory.erase, hk, if_false, Memory.get, ih]
      by_cases hb : b = a
      · subst hb; simp [hk]
      · simp [hb]

theorem Memory.get_insert (m : List Host.Cell) (a b : Nat) (v : Byte)
    (hm : ∀ c ∈ m, c.1 ≠ a) :
    Memory.get (Memory.insert m a v) b = if b = a then v else Memory.get m b := by
  induction m with
  | nil =>
    by_cases hb : b = a
    · simp [Memory.insert, Memory.get, hb]
    · simp [Memory.insert, Memory.get, hb, Ne.symm hb]
  | cons c rest ih =>
    obtain ⟨k, w⟩ := c
    have hk : k ≠ a := hm (k, w) (by simp)
    have hr : ∀ c ∈ rest, c.1 ≠ a := fun c hc => hm c (by simp [hc])
    unfold Memory.insert
    split
    · by_cases hb : b = a
      · simp [Memory.get, hb]
      · simp [Memory.get, hb, Ne.symm hb]
    · simp only [Memory.get, ih hr]
      by_cases hb : b = a
      · subst hb; simp [hk]
      · simp [hb]

theorem Memory.mem_erase {m : List Host.Cell} {a : Nat} {c : Host.Cell} :
    c ∈ Memory.erase m a ↔ c ∈ m ∧ c.1 ≠ a := by
  induction m with
  | nil => simp [Memory.erase]
  | cons d rest ih =>
    obtain ⟨k, v⟩ := d
    unfold Memory.erase
    split
    · rename_i hk
      rw [ih]
      constructor
      · rintro ⟨h, hne⟩; exact ⟨by simp [h], hne⟩
      · rintro ⟨h, hne⟩
        rcases List.mem_cons.1 h with rfl | h
        · exact absurd hk hne
        · exact ⟨h, hne⟩
    · rename_i hk
      rw [List.mem_cons, List.mem_cons, ih]
      constructor
      · rintro (rfl | ⟨h, hne⟩)
        · exact ⟨.inl rfl, hk⟩
        · exact ⟨.inr h, hne⟩
      · rintro ⟨rfl | h, hne⟩
        · exact .inl rfl
        · exact .inr ⟨h, hne⟩

/-- A read after a write: the cell written holds the value, every other cell what it held. -/
theorem Memory.get_set (m : List Host.Cell) (a b : Nat) (v : Byte) :
    Memory.get (Memory.set m a v) b = if b = a then v else Memory.get m b := by
  unfold Memory.set
  split
  · rename_i hv; rw [Memory.get_erase, hv]
  · rw [Memory.get_insert _ _ _ _ (fun c hc => (Memory.mem_erase.1 hc).2),
      Memory.get_erase]
    split <;> rfl

theorem Memory.mem_insert {m : List Host.Cell} {a : Nat} {v : Byte} {c : Host.Cell} :
    c ∈ Memory.insert m a v ↔ c = (a, v) ∨ c ∈ m := by
  induction m with
  | nil => simp [Memory.insert]
  | cons d rest ih =>
    obtain ⟨k, w⟩ := d
    unfold Memory.insert
    split
    · simp
    · simp only [List.mem_cons, ih]; tauto

theorem Memory.wf_nil : Memory.wf [] := ⟨List.Pairwise.nil, by simp⟩

theorem Memory.wf_erase {m : List Host.Cell} (a : Nat) (h : Memory.wf m) : Memory.wf (Memory.erase m a) := by
  refine ⟨?_, fun c hc => h.2 c (Memory.mem_erase.1 hc).1⟩
  obtain ⟨hp, -⟩ := h
  induction m with
  | nil => simp [Memory.erase]
  | cons d rest ih =>
    obtain ⟨k, v⟩ := d
    rw [List.pairwise_cons] at hp
    unfold Memory.erase
    split
    · exact ih hp.2
    · exact List.pairwise_cons.2 ⟨fun c hc => hp.1 c (Memory.mem_erase.1 hc).1, ih hp.2⟩

theorem Memory.pairwise_insert {m : List Host.Cell} (a : Nat) (v : Byte)
    (hp : m.Pairwise (fun c c' => c.1 < c'.1)) (ha : ∀ c ∈ m, c.1 ≠ a) :
    (Memory.insert m a v).Pairwise (fun c c' => c.1 < c'.1) := by
  induction m with
  | nil => simp [Memory.insert]
  | cons d rest ih =>
    obtain ⟨k, w⟩ := d
    have hk : k ≠ a := ha (k, w) (by simp)
    have hr : ∀ c ∈ rest, c.1 ≠ a := fun c hc => ha c (by simp [hc])
    rw [List.pairwise_cons] at hp
    unfold Memory.insert
    split
    · rename_i hlt
      refine List.pairwise_cons.2 ⟨fun c hc => ?_, List.pairwise_cons.2 hp⟩
      rcases List.mem_cons.1 hc with rfl | hc
      · exact hlt
      · exact Nat.lt_trans hlt (hp.1 c hc)
    · refine List.pairwise_cons.2 ⟨fun c hc => ?_, ih hp.2 hr⟩
      rcases Memory.mem_insert.1 hc with rfl | hc
      · show k < a; omega
      · exact hp.1 c hc

/-- Every write keeps the canonical form. -/
theorem Memory.wf_set {m : List Host.Cell} (a : Nat) (v : Byte) (h : Memory.wf m) :
    Memory.wf (Memory.set m a v) := by
  unfold Memory.set
  split
  · exact Memory.wf_erase a h
  · rename_i hv
    have he := Memory.wf_erase a h
    refine ⟨Memory.pairwise_insert a v he.1 fun c hc => (Memory.mem_erase.1 hc).2, fun c hc => ?_⟩
    rcases Memory.mem_insert.1 hc with rfl | hc
    · exact hv
    · exact he.2 c hc

/-- Every write keeps a bound on the cell numbers. -/
theorem Memory.bound_set {m : List Host.Cell} {n a : Nat} {v : Byte} (ha : a < n) (h : ∀ c ∈ m, c.1 < n) :
    ∀ c ∈ Memory.set m a v, c.1 < n := by
  intro c hc
  unfold Memory.set at hc
  split at hc
  · exact h c (Memory.mem_erase.1 hc).1
  · rcases Memory.mem_insert.1 hc with rfl | hc
    · exact ha
    · exact h c (Memory.mem_erase.1 hc).1

/-! ## The same, as the core reads and writes -/

theorem State.read_write (s : State) (a b : Word) (v : Byte) :
    (s.write a v).read b = if s.cell b = s.cell a then v else s.read b := by
  simp [State.read, Memory.get_set]

@[simp] theorem State.read_write_same (s : State) (a : Word) (v : Byte) : (s.write a v).read a = v := by
  simp [State.read_write]

theorem State.read_write_other (s : State) {a b : Word} (v : Byte) (h : s.cell b ≠ s.cell a) :
    (s.write a v).read b = s.read b := by
  simp [State.read_write, h]

/-- What a 16-bit write leaves at an address: the high byte at the cell of a + 1, the low byte at the cell of a when
that is another, and elsewhere what was there. -/
theorem State.read_write16 (s : State) (a v b : Word) :
    (s.write16 a v).read b =
      if s.cell b = s.cell (a + 1) then hi8 v else if s.cell b = s.cell a then lo8 v else s.read b := by
  simp [State.write16, State.read_write]

theorem State.reset_wf : Memory.wf State.reset.mem := Memory.wf_nil

end Sys2Proof.Machine
end

