-- ==== Sys2Proof/Laws/Frame.lean ====
section
/-! SUPPORT. Frames, update by update: a frame holds of a state with itself, and each base update of the state keeps it
when the touch lists what the update changes. A meaning's frame is a chain of these. -/

namespace Sys2Proof.Machine

theorem Touch.Frame.refl (m : Touch) (s : State) : m.Frame s s :=
  ⟨fun _ _ => rfl, fun _ _ => rfl, fun _ _ _ => rfl, fun _ _ => rfl, fun _ => rfl, fun _ => rfl, fun _ => rfl,
    fun _ => rfl, fun _ => rfl, fun _ => rfl, fun _ => rfl, fun _ => rfl, fun _ => rfl, fun _ => rfl, rfl, rfl⟩

variable {m : Touch} {s t : State}

/-- A frame between states is unchanged by a larger touch. -/
theorem Touch.Frame.weaken {m' : Touch} (h : m.Frame s t) (hr : ∀ r, r ∈ m.regs → r ∈ m'.regs)
    (hf : ∀ g, g ∈ m.flags → g ∈ m'.flags) (hh : ∀ p, p ∈ m.halves → p ∈ m'.halves)
    (hs : ∀ a, a ∈ m.stored → a ∈ m'.stored) (hp : ∀ k, k ∈ m.special → k ∈ m'.special) : m'.Frame s t where
  regs r hn := h.regs r fun hm => hn (hr r hm)
  flags g hn := h.flags g fun hm => hn (hf g hm)
  halves x w hn := h.halves x w fun hm => hn (hh _ hm)
  mem a hn := h.mem a fun b hb => hn b (hs b hb)
  sp hn := h.sp fun hm => hn (hp _ hm)
  i hn := h.i fun hm => hn (hp _ hm)
  r hn := h.r fun hm => hn (hp _ hm)
  iff1 hn := h.iff1 fun hm => hn (hp _ hm)
  iff2 hn := h.iff2 fun hm => hn (hp _ hm)
  im hn := h.im fun hm => hn (hp _ hm)
  halted hn := h.halted fun hm => hn (hp _ hm)
  other hn := h.other fun hm => hn (hp _ hm)
  draws hn := h.draws fun hm => hn (hp _ hm)
  events hn := h.events fun hm => hn (hp _ hm)
  alt := h.alt
  params := h.params

theorem Touch.Frame.jump (h : m.Frame s t) (v : Word) :
    m.Frame s (t.jump v) where
  regs g hg := by simpa using h.regs g hg
  flags g hg := by simpa using h.flags g hg
  halves x w hw := by simpa using h.halves x w hw
  mem a ha := by simpa using h.mem a ha
  sp hn := by simpa using h.sp hn
  i hn := by simpa using h.i hn
  r hn := by simpa using h.r hn
  iff1 hn := by simpa using h.iff1 hn
  iff2 hn := by simpa using h.iff2 hn
  im hn := by simpa using h.im hn
  halted hn := by simpa using h.halted hn
  other hn := by simpa using h.other hn
  draws hn := by simpa using h.draws hn
  events hn := by simpa using h.events hn
  alt := by simpa using h.alt
  params := by simpa using h.params

theorem Touch.Frame.setSp (h : m.Frame s t) (hm : .sp ∈ m.special) (v : Word) :
    m.Frame s (t.setSp v) where
  regs g hg := by simpa using h.regs g hg
  flags g hg := by simpa using h.flags g hg
  halves x w hw := by simpa using h.halves x w hw
  mem a ha := by simpa using h.mem a ha
  sp hn := absurd hm hn
  i hn := by simpa using h.i hn
  r hn := by simpa using h.r hn
  iff1 hn := by simpa using h.iff1 hn
  iff2 hn := by simpa using h.iff2 hn
  im hn := by simpa using h.im hn
  halted hn := by simpa using h.halted hn
  other hn := by simpa using h.other hn
  draws hn := by simpa using h.draws hn
  events hn := by simpa using h.events hn
  alt := by simpa using h.alt
  params := by simpa using h.params

theorem Touch.Frame.setI (h : m.Frame s t) (hm : .i ∈ m.special) (v : Byte) :
    m.Frame s (t.setI v) where
  regs g hg := by simpa using h.regs g hg
  flags g hg := by simpa using h.flags g hg
  halves x w hw := by simpa using h.halves x w hw
  mem a ha := by simpa using h.mem a ha
  sp hn := by simpa using h.sp hn
  i hn := absurd hm hn
  r hn := by simpa using h.r hn
  iff1 hn := by simpa using h.iff1 hn
  iff2 hn := by simpa using h.iff2 hn
  im hn := by simpa using h.im hn
  halted hn := by simpa using h.halted hn
  other hn := by simpa using h.other hn
  draws hn := by simpa using h.draws hn
  events hn := by simpa using h.events hn
  alt := by simpa using h.alt
  params := by simpa using h.params

theorem Touch.Frame.setRefresh (h : m.Frame s t) (hm : .r ∈ m.special) (v : Byte) :
    m.Frame s (t.setRefresh v) where
  regs g hg := by simpa using h.regs g hg
  flags g hg := by simpa using h.flags g hg
  halves x w hw := by simpa using h.halves x w hw
  mem a ha := by simpa using h.mem a ha
  sp hn := by simpa using h.sp hn
  i hn := by simpa using h.i hn
  r hn := absurd hm hn
  iff1 hn := by simpa using h.iff1 hn
  iff2 hn := by simpa using h.iff2 hn
  im hn := by simpa using h.im hn
  halted hn := by simpa using h.halted hn
  other hn := by simpa using h.other hn
  draws hn := by simpa using h.draws hn
  events hn := by simpa using h.events hn
  alt := by simpa using h.alt
  params := by simpa using h.params

theorem Touch.Frame.setIff1 (h : m.Frame s t) (hm : .iff1 ∈ m.special) (v : Bool) :
    m.Frame s (t.setIff1 v) where
  regs g hg := by simpa using h.regs g hg
  flags g hg := by simpa using h.flags g hg
  halves x w hw := by simpa using h.halves x w hw
  mem a ha := by simpa using h.mem a ha
  sp hn := by simpa using h.sp hn
  i hn := by simpa using h.i hn
  r hn := by simpa using h.r hn
  iff1 hn := absurd hm hn
  iff2 hn := by simpa using h.iff2 hn
  im hn := by simpa using h.im hn
  halted hn := by simpa using h.halted hn
  other hn := by simpa using h.other hn
  draws hn := by simpa using h.draws hn
  events hn := by simpa using h.events hn
  alt := by simpa using h.alt
  params := by simpa using h.params

theorem Touch.Frame.setIff2 (h : m.Frame s t) (hm : .iff2 ∈ m.special) (v : Bool) :
    m.Frame s (t.setIff2 v) where
  regs g hg := by simpa using h.regs g hg
  flags g hg := by simpa using h.flags g hg
  halves x w hw := by simpa using h.halves x w hw
  mem a ha := by simpa using h.mem a ha
  sp hn := by simpa using h.sp hn
  i hn := by simpa using h.i hn
  r hn := by simpa using h.r hn
  iff1 hn := by simpa using h.iff1 hn
  iff2 hn := absurd hm hn
  im hn := by simpa using h.im hn
  halted hn := by simpa using h.halted hn
  other hn := by simpa using h.other hn
  draws hn := by simpa using h.draws hn
  events hn := by simpa using h.events hn
  alt := by simpa using h.alt
  params := by simpa using h.params

theorem Touch.Frame.setIm (h : m.Frame s t) (hm : .im ∈ m.special) (v : IntMode) :
    m.Frame s (t.setIm v) where
  regs g hg := by simpa using h.regs g hg
  flags g hg := by simpa using h.flags g hg
  halves x w hw := by simpa using h.halves x w hw
  mem a ha := by simpa using h.mem a ha
  sp hn := by simpa using h.sp hn
  i hn := by simpa using h.i hn
  r hn := by simpa using h.r hn
  iff1 hn := by simpa using h.iff1 hn
  iff2 hn := by simpa using h.iff2 hn
  im hn := absurd hm hn
  halted hn := by simpa using h.halted hn
  other hn := by simpa using h.other hn
  draws hn := by simpa using h.draws hn
  events hn := by simpa using h.events hn
  alt := by simpa using h.alt
  params := by simpa using h.params

theorem Touch.Frame.setHalted (h : m.Frame s t) (hm : .halted ∈ m.special) (v : Bool) :
    m.Frame s (t.setHalted v) where
  regs g hg := by simpa using h.regs g hg
  flags g hg := by simpa using h.flags g hg
  halves x w hw := by simpa using h.halves x w hw
  mem a ha := by simpa using h.mem a ha
  sp hn := by simpa using h.sp hn
  i hn := by simpa using h.i hn
  r hn := by simpa using h.r hn
  iff1 hn := by simpa using h.iff1 hn
  iff2 hn := by simpa using h.iff2 hn
  im hn := by simpa using h.im hn
  halted hn := absurd hm hn
  other hn := by simpa using h.other hn
  draws hn := by simpa using h.draws hn
  events hn := by simpa using h.events hn
  alt := by simpa using h.alt
  params := by simpa using h.params

theorem Touch.Frame.drew (h : m.Frame s t) (hm : .draws ∈ m.special) :
    m.Frame s (t.drew) where
  regs g hg := by simpa using h.regs g hg
  flags g hg := by simpa using h.flags g hg
  halves x w hw := by simpa using h.halves x w hw
  mem a ha := by simpa using h.mem a ha
  sp hn := by simpa using h.sp hn
  i hn := by simpa using h.i hn
  r hn := by simpa using h.r hn
  iff1 hn := by simpa using h.iff1 hn
  iff2 hn := by simpa using h.iff2 hn
  im hn := by simpa using h.im hn
  halted hn := by simpa using h.halted hn
  other hn := by simpa using h.other hn
  draws hn := absurd hm hn
  events hn := by simpa using h.events hn
  alt := by simpa using h.alt
  params := by simpa using h.params

theorem Touch.Frame.record (h : m.Frame s t) (hm : .events ∈ m.special) (e : IoEvent) :
    m.Frame s (t.record e) where
  regs g hg := by simpa using h.regs g hg
  flags g hg := by simpa using h.flags g hg
  halves x w hw := by simpa using h.halves x w hw
  mem a ha := by simpa using h.mem a ha
  sp hn := by simpa using h.sp hn
  i hn := by simpa using h.i hn
  r hn := by simpa using h.r hn
  iff1 hn := by simpa using h.iff1 hn
  iff2 hn := by simpa using h.iff2 hn
  im hn := by simpa using h.im hn
  halted hn := by simpa using h.halted hn
  other hn := by simpa using h.other hn
  draws hn := by simpa using h.draws hn
  events hn := absurd hm hn
  alt := by simpa using h.alt
  params := by simpa using h.params

theorem Touch.Frame.setOther (h : m.Frame s t) (hm : .other ∈ m.special) (k : Bank) :
    m.Frame s (t.setOther k) where
  regs g hg := by simpa using h.regs g hg
  flags g hg := by simpa using h.flags g hg
  halves x w hw := by simpa using h.halves x w hw
  mem a ha := by simpa using h.mem a ha
  sp hn := by simpa using h.sp hn
  i hn := by simpa using h.i hn
  r hn := by simpa using h.r hn
  iff1 hn := by simpa using h.iff1 hn
  iff2 hn := by simpa using h.iff2 hn
  im hn := by simpa using h.im hn
  halted hn := by simpa using h.halted hn
  other hn := absurd hm hn
  draws hn := by simpa using h.draws hn
  events hn := by simpa using h.events hn
  alt := by simpa using h.alt
  params := by simpa using h.params

theorem Touch.Frame.setReg {r : Reg8} (h : m.Frame s t) (hm : r ∈ m.regs) (v : Byte) :
    m.Frame s (t.setReg r v) where
  regs g hg := by
    rw [State.getReg_setReg, if_neg (fun e : g = r => hg (e ▸ hm))]; exact h.regs g hg
  flags g hg := by simpa using h.flags g hg
  halves x w hw := by simpa using h.halves x w hw
  mem a ha := by simpa using h.mem a ha
  sp hn := by simpa using h.sp hn
  i hn := by simpa using h.i hn
  r hn := by simpa using h.r hn
  iff1 hn := by simpa using h.iff1 hn
  iff2 hn := by simpa using h.iff2 hn
  im hn := by simpa using h.im hn
  halted hn := by simpa using h.halted hn
  other hn := by simpa using h.other hn
  draws hn := by simpa using h.draws hn
  events hn := by simpa using h.events hn
  alt := by simpa using h.alt
  params := by simpa using h.params

theorem Touch.Frame.setBc (h : m.Frame s t) (h1 : .b ∈ m.regs) (h2 : .c ∈ m.regs) (v : Word) :
    m.Frame s (t.setBc v) where
  regs g hg := by
    rw [State.getReg_setBc, if_neg (fun e : g = .b => hg (e ▸ h1)), if_neg (fun e : g = .c => hg (e ▸ h2))]
    exact h.regs g hg
  flags g hg := by simpa using h.flags g hg
  halves x w hw := by simpa using h.halves x w hw
  mem a ha := by simpa using h.mem a ha
  sp hn := by simpa using h.sp hn
  i hn := by simpa using h.i hn
  r hn := by simpa using h.r hn
  iff1 hn := by simpa using h.iff1 hn
  iff2 hn := by simpa using h.iff2 hn
  im hn := by simpa using h.im hn
  halted hn := by simpa using h.halted hn
  other hn := by simpa using h.other hn
  draws hn := by simpa using h.draws hn
  events hn := by simpa using h.events hn
  alt := by simpa using h.alt
  params := by simpa using h.params

theorem Touch.Frame.setDe (h : m.Frame s t) (h1 : .d ∈ m.regs) (h2 : .e ∈ m.regs) (v : Word) :
    m.Frame s (t.setDe v) where
  regs g hg := by
    rw [State.getReg_setDe, if_neg (fun e : g = .d => hg (e ▸ h1)), if_neg (fun e : g = .e => hg (e ▸ h2))]
    exact h.regs g hg
  flags g hg := by simpa using h.flags g hg
  halves x w hw := by simpa using h.halves x w hw
  mem a ha := by simpa using h.mem a ha
  sp hn := by simpa using h.sp hn
  i hn := by simpa using h.i hn
  r hn := by simpa using h.r hn
  iff1 hn := by simpa using h.iff1 hn
  iff2 hn := by simpa using h.iff2 hn
  im hn := by simpa using h.im hn
  halted hn := by simpa using h.halted hn
  other hn := by simpa using h.other hn
  draws hn := by simpa using h.draws hn
  events hn := by simpa using h.events hn
  alt := by simpa using h.alt
  params := by simpa using h.params

theorem Touch.Frame.setHl (h : m.Frame s t) (h1 : .h ∈ m.regs) (h2 : .l ∈ m.regs) (v : Word) :
    m.Frame s (t.setHl v) where
  regs g hg := by
    rw [State.getReg_setHl, if_neg (fun e : g = .h => hg (e ▸ h1)), if_neg (fun e : g = .l => hg (e ▸ h2))]
    exact h.regs g hg
  flags g hg := by simpa using h.flags g hg
  halves x w hw := by simpa using h.halves x w hw
  mem a ha := by simpa using h.mem a ha
  sp hn := by simpa using h.sp hn
  i hn := by simpa using h.i hn
  r hn := by simpa using h.r hn
  iff1 hn := by simpa using h.iff1 hn
  iff2 hn := by simpa using h.iff2 hn
  im hn := by simpa using h.im hn
  halted hn := by simpa using h.halted hn
  other hn := by simpa using h.other hn
  draws hn := by simpa using h.draws hn
  events hn := by simpa using h.events hn
  alt := by simpa using h.alt
  params := by simpa using h.params

theorem Touch.Frame.setAf (h : m.Frame s t) (h1 : .a ∈ m.regs) (h2 : ∀ g, g ∈ m.flags) (v : Word) :
    m.Frame s (t.setAf v) where
  regs g hg := by
    rw [State.getReg_setAf, if_neg (fun e : g = .a => hg (e ▸ h1))]; exact h.regs g hg
  flags g hg := absurd (h2 g) hg
  halves x w hw := by simpa using h.halves x w hw
  mem a ha := by simpa using h.mem a ha
  sp hn := by simpa using h.sp hn
  i hn := by simpa using h.i hn
  r hn := by simpa using h.r hn
  iff1 hn := by simpa using h.iff1 hn
  iff2 hn := by simpa using h.iff2 hn
  im hn := by simpa using h.im hn
  halted hn := by simpa using h.halted hn
  other hn := by simpa using h.other hn
  draws hn := by simpa using h.draws hn
  events hn := by simpa using h.events hn
  alt := by simpa using h.alt
  params := by simpa using h.params

theorem Touch.Frame.assign (h : m.Frame s t) (fl : FlagSet) (hm : ∀ g, (fl.get g).isSome = true → g ∈ m.flags) :
    m.Frame s (t.assign fl) where
  regs g hg := by simpa using h.regs g hg
  flags g hg := by
    have hn : fl.get g = none := by
      cases hv : fl.get g with
      | none => rfl
      | some b => exact absurd (hm g (by simp [hv])) hg
    simpa [hn] using h.flags g hg
  halves x w hw := by simpa using h.halves x w hw
  mem a ha := by simpa using h.mem a ha
  sp hn := by simpa using h.sp hn
  i hn := by simpa using h.i hn
  r hn := by simpa using h.r hn
  iff1 hn := by simpa using h.iff1 hn
  iff2 hn := by simpa using h.iff2 hn
  im hn := by simpa using h.im hn
  halted hn := by simpa using h.halted hn
  other hn := by simpa using h.other hn
  draws hn := by simpa using h.draws hn
  events hn := by simpa using h.events hn
  alt := by simpa using h.alt
  params := by simpa using h.params

theorem Touch.Frame.setIdx {x : Idx} (h : m.Frame s t) (h1 : (x, .high) ∈ m.halves) (h2 : (x, .low) ∈ m.halves) (v : Word) :
    m.Frame s (t.setIdx x v) where
  regs g hg := by simpa using h.regs g hg
  flags g hg := by simpa using h.flags g hg
  halves y w hw := by
    rw [State.getHalf_setIdx, if_neg (fun e : y = x => hw (by cases w <;> simp [e, h1, h2]))]
    exact h.halves y w hw
  mem a ha := by simpa using h.mem a ha
  sp hn := by simpa using h.sp hn
  i hn := by simpa using h.i hn
  r hn := by simpa using h.r hn
  iff1 hn := by simpa using h.iff1 hn
  iff2 hn := by simpa using h.iff2 hn
  im hn := by simpa using h.im hn
  halted hn := by simpa using h.halted hn
  other hn := by simpa using h.other hn
  draws hn := by simpa using h.draws hn
  events hn := by simpa using h.events hn
  alt := by simpa using h.alt
  params := by simpa using h.params

theorem Touch.Frame.setHalf {x : Idx} {k : Half} (h : m.Frame s t) (hm : (x, k) ∈ m.halves) (v : Byte) :
    m.Frame s (t.setHalf x k v) where
  regs g hg := by cases k <;> simpa [State.setHalf] using h.regs g hg
  flags g hg := by cases k <;> simpa [State.setHalf] using h.flags g hg
  halves y w hw := by
    rw [State.getHalf_setHalf, if_neg (fun e => hw (by rw [e.1, e.2]; exact hm))]
    exact h.halves y w hw
  mem a ha := by cases k <;> simpa [State.setHalf] using h.mem a ha
  sp hn := by cases k <;> simpa [State.setHalf] using h.sp hn
  i hn := by cases k <;> simpa [State.setHalf] using h.i hn
  r hn := by cases k <;> simpa [State.setHalf] using h.r hn
  iff1 hn := by cases k <;> simpa [State.setHalf] using h.iff1 hn
  iff2 hn := by cases k <;> simpa [State.setHalf] using h.iff2 hn
  im hn := by cases k <;> simpa [State.setHalf] using h.im hn
  halted hn := by cases k <;> simpa [State.setHalf] using h.halted hn
  other hn := by cases k <;> simpa [State.setHalf] using h.other hn
  draws hn := by cases k <;> simpa [State.setHalf] using h.draws hn
  events hn := by cases k <;> simpa [State.setHalf] using h.events hn
  alt := by cases k <;> simpa [State.setHalf] using h.alt
  params := by cases k <;> simpa [State.setHalf] using h.params

theorem Touch.Frame.write {b : Word} (h : m.Frame s t) (hm : b ∈ m.stored) (v : Byte) :
    m.Frame s (t.write b v) where
  regs g hg := by simpa using h.regs g hg
  flags g hg := by simpa using h.flags g hg
  halves x w hw := by simpa using h.halves x w hw
  mem a ha := by
    have hc : ∀ w, t.cell w = s.cell w := fun w => by simp [State.cell, h.params]
    rw [State.read_write_other _ _ (by rw [hc, hc]; exact ha b hm)]
    exact h.mem a ha
  sp hn := by simpa using h.sp hn
  i hn := by simpa using h.i hn
  r hn := by simpa using h.r hn
  iff1 hn := by simpa using h.iff1 hn
  iff2 hn := by simpa using h.iff2 hn
  im hn := by simpa using h.im hn
  halted hn := by simpa using h.halted hn
  other hn := by simpa using h.other hn
  draws hn := by simpa using h.draws hn
  events hn := by simpa using h.events hn
  alt := by simpa using h.alt
  params := by simpa using h.params

theorem Touch.Frame.write16 {b : Word} (h : m.Frame s t) (h1 : b ∈ m.stored) (h2 : b + 1 ∈ m.stored) (v : Word) :
    m.Frame s (t.write16 b v) :=
  (h.write h1 _).write h2 _

theorem Touch.Frame.advance (h : m.Frame s t) (n : Word) : m.Frame s (t.advance n) := h.jump _

/-- Frames compose. -/
theorem Touch.Frame.trans {u : State} (h : m.Frame s t) (k : m.Frame t u) : m.Frame s u where
  regs r hn := (k.regs r hn).trans (h.regs r hn)
  flags g hn := (k.flags g hn).trans (h.flags g hn)
  halves x w hn := (k.halves x w hn).trans (h.halves x w hn)
  mem a hn := (k.mem a fun b hb => by simpa [State.cell, h.params] using hn b hb).trans (h.mem a hn)
  sp hn := (k.sp hn).trans (h.sp hn)
  i hn := (k.i hn).trans (h.i hn)
  r hn := (k.r hn).trans (h.r hn)
  iff1 hn := (k.iff1 hn).trans (h.iff1 hn)
  iff2 hn := (k.iff2 hn).trans (h.iff2 hn)
  im hn := (k.im hn).trans (h.im hn)
  halted hn := (k.halted hn).trans (h.halted hn)
  other hn := (k.other hn).trans (h.other hn)
  draws hn := (k.draws hn).trans (h.draws hn)
  events hn := (k.events hn).trans (h.events hn)
  alt := k.alt.trans h.alt
  params := k.params.trans h.params

end Sys2Proof.Machine
end

