-- ==== Sys2Proof/Laws/Ops.lean ====
section
/-! SUPPORT. One lemma per shared operation that says everything it does: the value it leaves and its frame. -/

namespace Sys2Proof.Machine

/-! ## Flags after an assignment -/

/-- The flags an assignment does not list are kept, so a frame needs only the listed ones. -/
theorem mem_allFlags (g : Flag) : g ∈ allFlags := by cases g <;> decide

/-- Every flag but C is listed. -/
theorem mem_notC {g : Flag} (h : g ≠ .c) : g ∈ notC := by cases g <;> first | decide | exact absurd rfl h

/-- An assignment that leaves C alone stays within `notC`. -/
theorem isSome_notC {fl : FlagSet} (hc : fl.c = none) (g : Flag) (h : (fl.get g).isSome = true) : g ∈ notC := by
  refine mem_notC ?_
  rintro rfl
  simp [FlagSet.get, hc] at h

/-- S, Z, Y, X after an assignment that takes them from SZYX(v). -/
theorem State.hasSzyx_assign (s : State) (fl : FlagSet) (v : Byte) (hs : fl.s = (szyx v).s) (hz : fl.z = (szyx v).z)
    (hy : fl.y = (szyx v).y) (hx : fl.x = (szyx v).x) : (s.assign fl).HasSzyx v := by
  constructor <;> simp [FlagSet.get, hs, hz, hy, hx, szyx_flags]

/-- HasSzyx looks at flags only. -/
theorem State.HasSzyx.congr {s t : State} {v : Byte} (h : s.HasSzyx v) (hf : ∀ g, t.flag g = s.flag g) : t.HasSzyx v :=
  ⟨(hf _).trans h.s, (hf _).trans h.z, (hf _).trans h.y, (hf _).trans h.x⟩

@[simp] theorem State.flag_advance (s : State) (n : Word) (g : Flag) : (s.advance n).flag g = s.flag g := by
  simp [State.advance]

@[simp] theorem State.getReg_advance (s : State) (n : Word) (r : Reg8) : (s.advance n).getReg r = s.getReg r := by
  simp [State.advance]

@[simp] theorem State.read_advance (s : State) (n a : Word) : (s.advance n).read a = s.read a := by
  simp [State.advance]

@[simp] theorem State.getHalf_advance (s : State) (n : Word) (x : Idx) (w : Half) :
    (s.advance n).getHalf x w = s.getHalf x w := by
  simp [State.advance]

@[simp] theorem State.getIdx_advance (s : State) (n : Word) (x : Idx) : (s.advance n).getIdx x = s.getIdx x := by
  simp [State.advance]

@[simp] theorem State.pc_advance (s : State) (n : Word) : (s.advance n).pc = s.pc + n := rfl

@[simp] theorem State.hasSzyx_advance (s : State) (n : Word) (v : Byte) : (s.advance n).HasSzyx v ↔ s.HasSzyx v :=
  ⟨fun h => h.congr fun g => (State.flag_advance s n g).symm, fun h => h.congr fun g => State.flag_advance s n g⟩

/-! ## The accumulator operations -/

theorem Touch.Frame.toA {m : Touch} {s t : State} (h : m.Frame s t) {p : Byte × FlagSet} (h1 : .a ∈ m.regs)
    (h2 : ∀ g, (p.2.get g).isSome = true → g ∈ m.flags) : m.Frame s (t.toA p) :=
  (h.setReg h1 p.1).assign p.2 h2

@[simp] theorem State.getReg_toA (s : State) (p : Byte × FlagSet) : (s.toA p).getReg .a = p.1 := by
  simp [State.toA, State.setA]

@[simp] theorem State.flag_toA (s : State) (p : Byte × FlagSet) (g : Flag) :
    (s.toA p).flag g = (p.2.get g).getD (s.flag g) := by
  simp [State.toA, State.setA]

theorem State.hasSzyx_toA (s : State) (p : Byte × FlagSet) (hs : p.2.s = (szyx p.1).s) (hz : p.2.z = (szyx p.1).z)
    (hy : p.2.y = (szyx p.1).y) (hx : p.2.x = (szyx p.1).x) : (s.toA p).HasSzyx p.1 :=
  State.hasSzyx_assign _ _ _ hs hz hy hx

theorem State.addA_spec (s : State) (v : Byte) (n : Word) : Added s v false n ((s.addA v).advance n) where
  result := by simp [State.addA, State.toA, State.setA, add8_result]
  szyx := by
    simp only [State.addA, State.getReg_advance, State.getReg_toA, State.hasSzyx_advance]
    exact State.hasSzyx_toA s _ rfl rfl rfl rfl
  half := by simp [State.addA, State.toA, FlagSet.get, add8_half]
  overflow := by simp [State.addA, State.toA, FlagSet.get, add8_overflow]
  addition := by simp [State.addA, State.toA, FlagSet.get, add8]
  carry := by simp [State.addA, State.toA, FlagSet.get, add8]
  pc := by simp [State.addA, State.toA, State.setA]
  frame := by
    unfold State.addA
    exact ((Touch.Frame.refl _ s).toA (by simp) fun g _ => mem_allFlags g).advance n

theorem State.adcA_spec (s : State) (v : Byte) (n : Word) : Added s v (s.flag .c) n ((s.adcA v).advance n) where
  result := by simp [State.adcA, State.toA, State.setA, add8_result]
  szyx := by
    simp only [State.adcA, State.getReg_advance, State.getReg_toA, State.hasSzyx_advance]
    exact State.hasSzyx_toA s _ rfl rfl rfl rfl
  half := by simp [State.adcA, State.toA, FlagSet.get, add8_half]
  overflow := by simp [State.adcA, State.toA, FlagSet.get, add8_overflow]
  addition := by simp [State.adcA, State.toA, FlagSet.get, add8]
  carry := by simp [State.adcA, State.toA, FlagSet.get, add8]
  pc := by simp [State.adcA, State.toA, State.setA]
  frame := by
    unfold State.adcA
    exact ((Touch.Frame.refl _ s).toA (by simp) fun g _ => mem_allFlags g).advance n

theorem State.subA_spec (s : State) (v : Byte) (n : Word) : Subtracted s v false n ((s.subA v).advance n) where
  result := by simp [State.subA, State.toA, State.setA, sub8_result]
  szyx := by
    simp only [State.subA, State.getReg_advance, State.getReg_toA, State.hasSzyx_advance]
    exact State.hasSzyx_toA s _ rfl rfl rfl rfl
  half := by simp [State.subA, State.toA, FlagSet.get, sub8_half]
  overflow := by simp [State.subA, State.toA, FlagSet.get, sub8_overflow]
  subtraction := by simp [State.subA, State.toA, FlagSet.get, sub8]
  carry := by simp [State.subA, State.toA, FlagSet.get, sub8_borrow]
  pc := by simp [State.subA, State.toA, State.setA]
  frame := by
    unfold State.subA
    exact ((Touch.Frame.refl _ s).toA (by simp) fun g _ => mem_allFlags g).advance n

theorem State.sbcA_spec (s : State) (v : Byte) (n : Word) : Subtracted s v (s.flag .c) n ((s.sbcA v).advance n) where
  result := by simp [State.sbcA, State.toA, State.setA, sub8_result]
  szyx := by
    simp only [State.sbcA, State.getReg_advance, State.getReg_toA, State.hasSzyx_advance]
    exact State.hasSzyx_toA s _ rfl rfl rfl rfl
  half := by simp [State.sbcA, State.toA, FlagSet.get, sub8_half]
  overflow := by simp [State.sbcA, State.toA, FlagSet.get, sub8_overflow]
  subtraction := by simp [State.sbcA, State.toA, FlagSet.get, sub8]
  carry := by simp [State.sbcA, State.toA, FlagSet.get, sub8_borrow]
  pc := by simp [State.sbcA, State.toA, State.setA]
  frame := by
    unfold State.sbcA
    exact ((Touch.Frame.refl _ s).toA (by simp) fun g _ => mem_allFlags g).advance n

theorem State.cpA_spec (s : State) (v : Byte) (n : Word) : Compared s v n ((s.cpA v).advance n) where
  sign := by simp [State.cpA, FlagSet.get, cp8_sign]
  zero := by simp [State.cpA, FlagSet.get, cp8_zero]
  y := by simp [State.cpA, FlagSet.get, cp8]
  x := by simp [State.cpA, FlagSet.get, cp8]
  half := by simp [State.cpA, FlagSet.get, cp8, sub8_half]
  overflow := by simp [State.cpA, FlagSet.get, cp8, sub8_overflow]
  subtraction := by simp [State.cpA, FlagSet.get, cp8, sub8]
  carry := by simp [State.cpA, FlagSet.get, cp8, sub8_borrow]
  pc := by simp [State.cpA]
  frame := ((Touch.Frame.refl _ s).assign _ fun g _ => mem_allFlags g).advance n

/-- A logical operation writes its result to A and the flags of R120 to R122. -/
theorem State.logic_spec (s : State) (res : Byte) (h : Bool) (n : Word) :
    Logical s res h n ((s.toA (res, logicFlags res h)).advance n) where
  result := by simp [State.toA, State.setA]
  szyx := by
    simp only [State.hasSzyx_advance]
    exact State.hasSzyx_toA s (res, logicFlags res h) rfl rfl rfl rfl
  half := by simp [State.toA, FlagSet.get, logicFlags]
  parity := by simp [State.toA, FlagSet.get, logicFlags, parity_eq_evenOnes]
  addition := by simp [State.toA, FlagSet.get, logicFlags]
  carry := by simp [State.toA, FlagSet.get, logicFlags]
  pc := by simp [State.toA, State.setA]
  frame := ((Touch.Frame.refl _ s).toA (by simp) fun g _ => mem_allFlags g).advance n

/-! ## Byte destinations -/

theorem State.getLoc_eq (s : State) (z : Loc8) : s.getLoc z = (s.target z).value s := by cases z <;> rfl

@[simp] theorem State.value_setLoc (s : State) (z : Loc8) (v : Byte) : (s.target z).value (s.setLoc z v) = v := by
  cases z <;> simp [State.target, Target.value, State.setLoc]

theorem State.frame_setLoc (s : State) (z : Loc8) (v : Byte) (fl : List Flag) :
    ((s.target z).touch fl).Frame s (s.setLoc z v) := by
  cases z with
  | reg r => exact (Touch.Frame.refl _ s).setReg (by simp [State.target, Target.touch]) v
  | atHL => exact (Touch.Frame.refl _ s).write (by simp [State.target, Target.touch]) v

@[simp] theorem State.value_setHalf (s : State) (x : Idx) (w : Half) (v : Byte) :
    (Target.half x w).value (s.setHalf x w v) = v := by
  simp [Target.value, State.getHalf_setHalf]

@[simp] theorem Target.value_assign (g : Target) (s : State) (fl : FlagSet) : g.value (s.assign fl) = g.value s := by
  cases g <;> simp [Target.value]

@[simp] theorem Target.value_advance (g : Target) (s : State) (n : Word) : g.value (s.advance n) = g.value s := by
  cases g <;> simp [Target.value]

@[simp] theorem Target.flags_touch (g : Target) (fl : List Flag) : (g.touch fl).flags = fl := by cases g <;> rfl

@[simp] theorem State.pc_setLoc (s : State) (z : Loc8) (v : Byte) : (s.setLoc z v).pc = s.pc := by
  cases z <;> simp [State.setLoc]

@[simp] theorem State.pc_setHalf (s : State) (x : Idx) (w : Half) (v : Byte) : (s.setHalf x w v).pc = s.pc := by
  cases w <;> simp [State.setHalf]

theorem State.frame_setReg (s : State) (r : Reg8) (v : Byte) (fl : List Flag) :
    ((Target.reg r).touch fl).Frame s (s.setReg r v) :=
  (Touch.Frame.refl _ s).setReg (by simp [Target.touch]) v

theorem State.frame_setHalf (s : State) (x : Idx) (w : Half) (v : Byte) (fl : List Flag) :
    ((Target.half x w).touch fl).Frame s (s.setHalf x w v) :=
  (Touch.Frame.refl _ s).setHalf (by simp [Target.touch]) v

theorem State.frame_write (s : State) (a : Word) (v : Byte) (fl : List Flag) :
    ((Target.mem a).touch fl).Frame s (s.write a v) :=
  (Touch.Frame.refl _ s).write (by simp [Target.touch]) v

/-- Writing v to a destination and advancing PC is a load. -/
theorem Loaded.of_write {s u : State} {g : Target} {v : Byte} {n : Word} (hv : g.value u = v) (hp : u.pc = s.pc)
    (hf : (g.touch []).Frame s u) : Loaded s g v n (u.advance n) :=
  ⟨by simpa using hv, by simp [hp], hf.advance n⟩

/-- Writing inc8's result to a destination and then its flags is an INC. -/
theorem Incremented.of_write {s u : State} {g : Target} {n : Word} (hv : g.value u = (inc8 (g.value s)).1)
    (hp : u.pc = s.pc) (hf : (g.touch notC).Frame s u) :
    Incremented s g n ((u.assign (inc8 (g.value s)).2).advance n) where
  result := by simp [hv, inc8]
  szyx := by
    simp only [State.hasSzyx_advance, Target.value_advance, Target.value_assign, hv]
    exact State.hasSzyx_assign _ _ _ rfl rfl rfl rfl
  half := by simp [FlagSet.get, inc8_half]
  overflow := by
    simp [FlagSet.get, inc8]
    rw [Bool.eq_iff_iff]
    simp [BitVec.toNat_eq]
  addition := by simp [FlagSet.get, inc8]
  pc := by simp [hp]
  frame := (hf.assign _ fun g h => by rw [Target.flags_touch]; exact isSome_notC rfl g h).advance n

/-- Writing dec8's result to a destination and then its flags is a DEC. -/
theorem Decremented.of_write {s u : State} {g : Target} {n : Word} (hv : g.value u = (dec8 (g.value s)).1)
    (hp : u.pc = s.pc) (hf : (g.touch notC).Frame s u) :
    Decremented s g n ((u.assign (dec8 (g.value s)).2).advance n) where
  result := by
    have := (g.value s).isLt
    simp [hv, dec8, BitVec.toNat_sub]; omega
  szyx := by
    simp only [State.hasSzyx_advance, Target.value_advance, Target.value_assign, hv]
    exact State.hasSzyx_assign _ _ _ rfl rfl rfl rfl
  half := by simp [FlagSet.get, dec8_half]
  overflow := by
    simp [FlagSet.get, dec8]
    rw [Bool.eq_iff_iff]
    simp [BitVec.toNat_eq]
  subtraction := by simp [FlagSet.get, dec8]
  pc := by simp [hp]
  frame := (hf.assign _ fun g h => by rw [Target.flags_touch]; exact isSome_notC rfl g h).advance n

/-! ## Word destinations -/

@[simp] theorem WideTarget.flags_touch (g : WideTarget) (fl : List Flag) : (g.touch fl).flags = fl := by cases g <;> rfl

theorem State.frame_setPair (s : State) (p : Pair) (v : Word) (fl : List Flag) :
    ((WideTarget.pair p).touch fl).Frame s (s.setPair p v) := by
  have h := Touch.Frame.refl ((WideTarget.pair p).touch fl) s
  cases p with
  | bc => exact h.setBc (by simp [WideTarget.touch, Pair.regs]) (by simp [WideTarget.touch, Pair.regs]) v
  | de => exact h.setDe (by simp [WideTarget.touch, Pair.regs]) (by simp [WideTarget.touch, Pair.regs]) v
  | hl => exact h.setHl (by simp [WideTarget.touch, Pair.regs]) (by simp [WideTarget.touch, Pair.regs]) v
  | sp => exact h.setSp (by simp [WideTarget.touch]) v

@[simp] theorem State.getPair_setPair (s : State) (p : Pair) (v : Word) : (s.setPair p v).getPair p = v := by
  cases p <;> simp [State.setPair, State.getPair]

@[simp] theorem State.pc_setPair (s : State) (p : Pair) (v : Word) : (s.setPair p v).pc = s.pc := by
  cases p <;> simp [State.setPair]

/-- A word written to memory: the high byte at a + 1, the low byte at a when that is another cell (R55). -/
theorem State.holds_write16 (s : State) (a v : Word) : (WideTarget.mem a).Holds v (s.write16 a v) := by
  refine ⟨by simp [State.read_write16], fun h => ?_⟩
  have h' : s.cell a ≠ s.cell (a + 1) := by simpa [State.write16] using h
  rw [State.read_write16, if_neg h', if_pos rfl]

theorem State.frame_setIdx (s : State) (x : Idx) (v : Word) (fl : List Flag) :
    ((WideTarget.index x).touch fl).Frame s (s.setIdx x v) :=
  (Touch.Frame.refl _ s).setIdx (by simp [WideTarget.touch]) (by simp [WideTarget.touch]) v

theorem State.frame_write16 (s : State) (a v : Word) (fl : List Flag) :
    ((WideTarget.mem a).touch fl).Frame s (s.write16 a v) :=
  (Touch.Frame.refl _ s).write16 (by simp [WideTarget.touch]) (by simp [WideTarget.touch]) v

theorem WideTarget.holds_advance (g : WideTarget) (v n : Word) (s : State) :
    g.Holds v (s.advance n) ↔ g.Holds v s := by
  rcases g with p | x | a
  · cases p <;> simp [WideTarget.Holds, State.getPair, State.advance]
  · simp [WideTarget.Holds]
  · simp [WideTarget.Holds, State.advance]

/-- Writing v to a word destination and advancing PC is a word load. -/
theorem WideLoaded.of_write {s u : State} {g : WideTarget} {v n : Word} (hv : g.Holds v u) (hp : u.pc = s.pc)
    (hf : (g.touch []).Frame s u) : WideLoaded s g v n (u.advance n) :=
  ⟨(g.holds_advance v n u).2 hv, by simp [hp], hf.advance n⟩

/-! ## Stack and control transfer -/

/-- `push16(v)` then a jump. -/
theorem State.push16_spec (s : State) (v target : Word) : Pushed s v target ((s.push16 v).jump target) := by
  have h1 : s.sp - 2 + 1 = s.sp - 1 := by
    apply BitVec.eq_of_toNat_eq; simp [BitVec.toNat_sub, BitVec.toNat_add]; omega
  have hm := State.holds_write16 (s.setSp (s.sp - 2)) (s.sp - 2) v
  obtain ⟨hh, hl⟩ := hm
  rw [h1] at hh hl
  refine ⟨by simpa [State.push16] using hh, fun hc => ?_, by simp [State.push16, State.write16], rfl, ?_⟩
  · have := hl (by simpa [State.write16] using hc)
    simpa [State.push16] using this
  · exact (((Touch.Frame.refl _ s).setSp (by simp) _).write16 (by simp) (by rw [h1]; simp) _).jump _

/-- `PC <- pop16()`. -/
theorem State.returnPop_spec (s : State) : Returned s [] s.returnPop where
  pc := by simp [State.returnPop, State.top16, State.read16, concat_toNat]; omega
  sp := rfl
  frame := ((Touch.Frame.refl _ s).setSp (by simp) _).jump _

/-- The return of RETN and RETI. -/
theorem State.returnFromInterrupt_spec (s : State) :
    s.returnFromInterrupt.iff1 = s.iff2 ∧ Returned s [.iff1] s.returnFromInterrupt :=
  ⟨rfl, by simpa [State.returnFromInterrupt] using (State.returnPop_spec s).pc, rfl,
    (((Touch.Frame.refl _ s).setSp (by simp) _).jump _).setIff1 (by simp) _⟩

/-- The conditions of R86. -/
theorem State.cond_iff (s : State) (cc : Cond) : s.cond cc = true ↔ s.meets cc := by
  cases cc <;> simp [State.cond, State.meets]

/-! ## Rotates, shifts and the copy register -/

/-- An assignment that lists no flag outside l lists only flags of l. -/
theorem FlagSet.mem_of_isSome {fl : FlagSet} {l : List Flag} (h : ∀ g, g ∉ l → fl.get g = none) (g : Flag)
    (hg : (fl.get g).isSome = true) : g ∈ l := by
  by_contra hn
  simp [h g hn] at hg

@[simp] theorem State.read_copyTo (s : State) (c : Option Reg8) (v : Byte) (a : Word) :
    (s.copyTo c v).read a = s.read a := by
  cases c <;> simp [State.copyTo]

@[simp] theorem State.pc_copyTo (s : State) (c : Option Reg8) (v : Byte) : (s.copyTo c v).pc = s.pc := by
  cases c <;> simp [State.copyTo]

/-- A byte stored at an address and copied to a register. -/
theorem State.frame_storeCopy (s : State) (a : Word) (v : Byte) (c : Option Reg8) (fl : List Flag) :
    (((Target.mem a).touch fl).withCopy c).Frame s (s.storeCopy a v c) := by
  have h : (((Target.mem a).touch fl).withCopy c).Frame s (s.write a v) :=
    (Touch.Frame.refl _ s).write (by simp [Touch.withCopy, Target.touch]) v
  cases c with
  | none => exact h
  | some r => exact h.setReg (by simp [Touch.withCopy]) v

theorem State.rotLoc_spec (f : Rot) (s : State) (z : Loc8) (n : Word) :
    Rotated f s (s.target z) none n ((s.rotLoc (rotFnOf f) z).advance n) where
  result := by simp [State.rotLoc, rot_result, State.getLoc_eq]
  copied := by simp
  szyx := by
    simp only [State.rotLoc, State.hasSzyx_advance, Target.value_advance, Target.value_assign, State.value_setLoc]
    exact State.hasSzyx_assign _ _ _ rfl rfl rfl rfl
  half := by simp [State.rotLoc, FlagSet.get, rotFlags]
  parity := by simp [State.rotLoc, FlagSet.get, rotFlags, parity_eq_evenOnes]
  addition := by simp [State.rotLoc, FlagSet.get, rotFlags]
  carry := by simp [State.rotLoc, FlagSet.get, rotFlags, rot_out, State.getLoc_eq]
  pc := by simp [State.rotLoc]
  frame := by
    have h := (s.frame_setLoc z (rotFnOf f (s.getLoc z) (s.flag .c)).1 allFlags).assign
      (rotFlags (rotFnOf f (s.getLoc z) (s.flag .c)).1 (rotFnOf f (s.getLoc z) (s.flag .c)).2)
      (fun g _ => by rw [Target.flags_touch]; exact mem_allFlags g)
    exact h.advance n

theorem State.rotAt_spec (f : Rot) (s : State) (a : Word) (c : Option Reg8) (n : Word) :
    Rotated f s (.mem a) c n ((s.rotAt (rotFnOf f) a c).advance n) where
  result := by simp [State.rotAt, rot_result, Target.value]
  copied := by rintro r rfl; simp [State.rotAt, Target.value, State.copyTo]
  szyx := by
    simp only [State.rotAt, State.hasSzyx_advance, Target.value, State.read_advance, State.read_assign,
      State.read_copyTo, State.read_write_same]
    exact State.hasSzyx_assign _ _ _ rfl rfl rfl rfl
  half := by simp [State.rotAt, FlagSet.get, rotFlags]
  parity := by simp [State.rotAt, FlagSet.get, rotFlags, parity_eq_evenOnes, Target.value]
  addition := by simp [State.rotAt, FlagSet.get, rotFlags]
  carry := by simp [State.rotAt, FlagSet.get, rotFlags, rot_out, Target.value]
  pc := by simp [State.rotAt]
  frame := by
    have h := (s.frame_storeCopy a (rotFnOf f (s.read a) (s.flag .c)).1 c allFlags).assign
      (rotFlags (rotFnOf f (s.read a) (s.flag .c)).1 (rotFnOf f (s.read a) (s.flag .c)).2)
      (fun g _ => mem_allFlags g)
    exact h.advance n

theorem State.rotA_spec (f : Rot) (s : State) : AccRotated f s ((s.rotA (rotFnOf f)).advance 1) where
  result := by simp [State.rotA, State.setA, rot_result]
  y := by
    simp only [State.rotA, State.flag_advance, State.flag_assign]
    simp [State.setA, FlagSet.get, accRotFlags, yx]
  x := by
    simp only [State.rotA, State.flag_advance, State.flag_assign]
    simp [State.setA, FlagSet.get, accRotFlags, yx]
  half := by simp [State.rotA, FlagSet.get, accRotFlags]
  addition := by simp [State.rotA, FlagSet.get, accRotFlags]
  carry := by simp [State.rotA, FlagSet.get, accRotFlags, rot_out]
  pc := by simp [State.rotA, State.setA]
  frame := by
    have h := ((Touch.Frame.refl { regs := [.a], flags := [.y, .h, .x, .n, .c] } s).setReg (r := .a) (by simp)
      (rotFnOf f (s.getReg .a) (s.flag .c)).1).assign
      (accRotFlags (rotFnOf f (s.getReg .a) (s.flag .c)).1 (rotFnOf f (s.getReg .a) (s.flag .c)).2)
      (FlagSet.mem_of_isSome (by intro g hg; cases g <;> first | rfl | simp at hg))
    exact h.advance 1

end Sys2Proof.Machine
end

