-- ==== Sys2Proof/Laws/Block.lean ====
section
/-! SUPPORT. One iteration of each block instruction, and what a repeating form does after it. -/

namespace Sys2Proof.Machine

/-- A drawn flag. -/
theorem Touch.Frame.drawFlag {m : Touch} {s t : State} (h : m.Frame s t) (g : Flag) (hg : g ∈ m.flags) (hd :
    .draws ∈ m.special) : m.Frame s (t.drawFlag g) :=
  (h.assign _ (by intro k; cases g <;> cases k <;> simp [FlagSet.only, FlagSet.get] <;> exact hg)).drew hd

theorem State.frame_ldIteration (s : State) (d : Dir) (m : Touch) (hr : ∀ r, r ≠ .a → r ∈ m.regs) (hf :
    ∀ g ∈ [Flag.y, .h, .x, .pv, .n], g ∈ m.flags) (hs : s.de ∈ m.stored) : m.Frame s (s.ldIteration d) := by
  unfold State.ldIteration
  exact ((((Touch.Frame.refl _ s).write hs _).setHl (hr _ (by simp)) (hr _ (by simp)) _).setDe (hr _ (by simp))
      (hr _ (by simp)) _).setBc (hr _ (by simp)) (hr _ (by simp))
      _ |>.assign _ fun g h => hf g (FlagSet.mem_of_isSome (by intro g hg; cases g <;> first | rfl | simp at hg) g h)

/-- 1 or -1. -/
def Dir.word : Dir → Word | .inc => 1 | .dec => -1
/-- A pointer stepped is the pointer plus 1 or minus 1. -/
theorem Dir.step_eq (d : Dir) (v : Word) : d.step v = v + Dir.word d := by cases d <;> simp [Dir.step, Dir.word,
    BitVec.sub_eq_add_neg]

/-- LDI and LDD. -/
theorem State.ldIteration_spec (s : State) (d : Dir) : BlockMoved s (Dir.word d)
    false ((s.ldIteration d).advance 2) where
  stored := by simp [State.ldIteration]
  hl := by simp [State.ldIteration, State.advance, Dir.step_eq]
  de := by simp [State.ldIteration, State.advance, Dir.step_eq]
  bc := by simp [State.ldIteration, State.advance, Dir.step_eq]
  half := by simp [State.ldIteration, FlagSet.get, ldFlags]
  addition := by simp [State.ldIteration, FlagSet.get, ldFlags]
  left := by
    rw [Bool.eq_iff_iff]
    simp [State.ldIteration, FlagSet.get, ldFlags, State.advance, BitVec.toNat_eq]
  y := by
    intro _; simp only [State.ldIteration, State.flag_advance, State.flag_assign, FlagSet.get, ldFlags,
        Option.getD_some]; simp [State.getReg_setBc, State.getReg_setDe, State.getReg_setHl]
  x := by
    intro _; simp only [State.ldIteration, State.flag_advance, State.flag_assign, FlagSet.get, ldFlags,
        Option.getD_some]; simp [State.getReg_setBc, State.getReg_setDe, State.getReg_setHl]
  pc := by simp [State.ldIteration]
  frame := (State.frame_ldIteration s d _ (by intro r; cases r <;> simp) (by simp) (by simp)).advance 2

/-- One iteration of LDIR and LDDR. -/
theorem State.repeatLd_spec (s : State) (d : Dir) : BlockMoved s (Dir.word d) (decide (s.bc.toNat ≠ 1))
    ((s.ldIteration d).repeatLd) := by
  have hb : (s.ldIteration d).bc = s.bc - 1 := by simp [State.ldIteration]
  have hz : ((s.ldIteration d).bc != 0) = decide (s.bc.toNat ≠ 1) := by
    rw [hb, Bool.eq_iff_iff]; have := s.bc.isLt; simp [BitVec.toNat_eq, BitVec.toNat_sub]; omega
  have k := State.ldIteration_spec s d
  unfold State.repeatLd
  rw [hz]
  by_cases h : s.bc.toNat ≠ 1
  · rw [decide_eq_true h, if_pos rfl]
    constructor
    · simpa [State.drawYX, State.drawFlag] using k.stored
    · simpa [State.drawYX, State.drawFlag, State.advance] using k.hl
    · simpa [State.drawYX, State.drawFlag, State.advance] using k.de
    · simpa [State.drawYX, State.drawFlag, State.advance] using k.bc
    · simpa [State.drawYX, State.drawFlag, FlagSet.get, FlagSet.only] using k.half
    · simpa [State.drawYX, State.drawFlag, FlagSet.get, FlagSet.only] using k.addition
    · simpa [State.drawYX, State.drawFlag, FlagSet.get, FlagSet.only, State.advance] using k.left
    · simp
    · simp
    · simp [State.drawYX, State.drawFlag, State.ldIteration]
    · have hf := State.frame_ldIteration s d
        { regs := [.b, .c, .d, .e, .h, .l], flags := [.y, .h, .x, .pv, .n], stored := [s.de], special := [.draws] }
        (by intro r; cases r <;> simp) (by simp) (by simp)
      exact (hf.drawFlag _ (by simp) (by simp)).drawFlag _ (by simp) (by simp)
  · rw [decide_eq_false h]; exact k

theorem State.frame_cpIteration (s : State) (d : Dir) (m : Touch) (hr : ∀ r ∈ [Reg8.b, .c, .h, .l], r ∈ m.regs)
    (hf : ∀ g ∈ notC, g ∈ m.flags) : m.Frame s (s.cpIteration d) := by
  unfold State.cpIteration
  exact (((Touch.Frame.refl _ s).setHl (hr _ (by simp)) (hr _ (by simp)) _).setBc (hr _ (by simp))
      (hr _ (by simp)) _ |>.assign _ fun g h => hf g (isSome_notC rfl g h))

theorem bit0_eq (c : Bool) : bit0 c = BitVec.ofNat 8 c.toNat := rfl

/-- The flags of CPI and CPD are those of a compare, in S, Z and H. -/
theorem cpFlags_eq (a v : Byte) (w : Word) :
    (cpFlags a v w).s = (cp8 a v).s ∧ (cpFlags a v w).z = (cp8 a v).z ∧
      (cpFlags a v w).h = some (decide (a.toNat % 16 < v.toNat % 16)) := by
  have e : (sub8 a v false).1 = a - v := by
    apply BitVec.eq_of_toNat_eq; have h := sub8_result a v false; have := a.isLt; have := v.isLt
    simp [BitVec.toNat_sub] at h ⊢; omega
  have e2 : (sub8 a v false).1 = BitVec.ofInt 8 ((a.toNat : Int) - v.toNat - false.toNat) := rfl
  have hh := sub8_half a v false
  refine ⟨?_, ?_, ?_⟩
  · simp [cpFlags, cp8, sub8, szyx, ← e]
  · simp [cpFlags, cp8, sub8, szyx, ← e]
  · simp [cpFlags, ← e, e2] at hh ⊢
    simp [sub8] at hh; simpa using hh

/-- CPI and CPD. -/
theorem State.cpIteration_spec (s : State) (d : Dir) : BlockCompared s (Dir.word d)
    false ((s.cpIteration d).advance 2) := by
  have hh : ((s.cpIteration d).advance 2).flag .h = decide ((s.getReg .a).toNat % 16 < (s.read s.hl).toNat % 16) := by
    have := fun w => (cpFlags_eq (s.getReg .a) (s.read s.hl) w).2.2
    simp [State.cpIteration, FlagSet.get, State.getReg_setBc, State.getReg_setHl, this]
  constructor
  · simp [State.cpIteration, State.advance, Dir.step_eq]
  · simp [State.cpIteration, State.advance]
  · have := fun w => (cpFlags_eq (s.getReg .a) (s.read s.hl) w).1
    simp [State.cpIteration, FlagSet.get, State.getReg_setBc, State.getReg_setHl, this, cp8_sign]
  · have := fun w => (cpFlags_eq (s.getReg .a) (s.read s.hl) w).2.1
    simp [State.cpIteration, FlagSet.get, State.getReg_setBc, State.getReg_setHl, this, cp8_zero]
  · exact hh
  · simp [State.cpIteration, FlagSet.get, cpFlags]
  · rw [Bool.eq_iff_iff]; simp [State.cpIteration, FlagSet.get, cpFlags, State.advance, BitVec.toNat_eq]
  · intro _
    simp only [State.cpIteration, State.flag_advance, State.flag_assign, FlagSet.get, cpFlags, Option.getD_some,
        bit0_eq]; simp [State.getReg_setBc, State.getReg_setHl]
  · intro _
    simp only [State.cpIteration, State.flag_advance, State.flag_assign, FlagSet.get, cpFlags, Option.getD_some,
        bit0_eq]; simp [State.getReg_setBc, State.getReg_setHl]
  · simp [State.cpIteration]
  · exact (State.frame_cpIteration s d _ (by simp) (by simp)).advance 2

/-- One iteration of CPIR and CPDR. -/
theorem State.repeatCp_spec (s : State) (d : Dir) : BlockCompared s (Dir.word d)
    (decide (s.bc.toNat ≠ 1 ∧ s.getReg .a ≠ s.read s.hl)) ((s.cpIteration d).repeatCp) := by
  have k := State.cpIteration_spec s d
  have hb : (s.cpIteration d).bc = s.bc - 1 := by simp [State.cpIteration]
  have hzf : (s.cpIteration d).flag .z = decide (s.getReg .a = s.read s.hl) := by simpa using k.zero
  have hz : ((s.cpIteration d).bc != 0 && !(s.cpIteration d).flag .z)
      = decide (s.bc.toNat ≠ 1 ∧ s.getReg .a ≠ s.read s.hl) := by
    rw [hb, hzf, Bool.eq_iff_iff]; have := s.bc.isLt; simp [BitVec.toNat_eq, BitVec.toNat_sub]; omega
  unfold State.repeatCp
  rw [hz]
  by_cases h : s.bc.toNat ≠ 1 ∧ s.getReg .a ≠ s.read s.hl
  · rw [decide_eq_true h, if_pos rfl]
    constructor
    · simpa [State.drawYX, State.drawFlag, State.advance] using k.hl
    · simpa [State.drawYX, State.drawFlag, State.advance] using k.bc
    · simpa [State.drawYX, State.drawFlag, FlagSet.get, FlagSet.only] using k.sign
    · simpa [State.drawYX, State.drawFlag, FlagSet.get, FlagSet.only] using k.zero
    · simpa [State.drawYX, State.drawFlag, FlagSet.get, FlagSet.only] using k.half
    · simpa [State.drawYX, State.drawFlag, FlagSet.get, FlagSet.only] using k.subtraction
    · simpa [State.drawYX, State.drawFlag, FlagSet.get, FlagSet.only, State.advance] using k.left
    · simp
    · simp
    · simp [State.drawYX, State.drawFlag, State.cpIteration]
    · exact Touch.Frame.drawFlag (Touch.Frame.drawFlag (State.frame_cpIteration s d _ (by simp) (by simp))
        _ (by simp [notC]) (by simp)) _ (by simp [notC]) (by simp)
  · rw [decide_eq_false h]; exact k

theorem and7_eq (k : Nat) : (BitVec.ofNat 8 k &&& 7) = BitVec.ofNat 8 (k % 8) := by
  have : ∀ v : Byte, v &&& 7 = BitVec.ofNat 8 (v.toNat % 8) := by decide +kernel
  rw [this]; simp

/-- The flags of an I/O block iteration. -/
theorem State.hasIoFlags_assign (s : State) (v m bn : Byte) (hb : s.getReg .b = bn) (mm : Nat) (hm :
    m.toNat = mm) (n : Word) : ((s.assign (ioFlags v m bn)).advance n).HasIoFlags v mm false := by
  subst hb; subst hm
  constructor
  · simp only [State.flag_advance, State.flag_assign, FlagSet.get, ioFlags, szyx_flags, Option.getD_some]; simp
  · simp only [State.flag_advance, State.flag_assign, FlagSet.get, ioFlags, szyx_flags, Option.getD_some]; simp
  · simp only [State.flag_advance, State.flag_assign, FlagSet.get, ioFlags, szyx_flags, Option.getD_some];
      rw [byte_bit7]
  · simp [FlagSet.get, ioFlags]
  · intro _; simp [FlagSet.get, ioFlags]
  · intro _; simp only [State.flag_advance, State.flag_assign, FlagSet.get, ioFlags, szyx_flags,
      Option.getD_some, parity_eq_evenOnes, and7_eq]; simp
  · intro _; simp only [State.flag_advance, State.flag_assign, FlagSet.get, ioFlags, szyx_flags,
      Option.getD_some]; simp
  · intro _; simp only [State.flag_advance, State.flag_assign, FlagSet.get, ioFlags, szyx_flags,
      Option.getD_some]; simp

theorem byte_pred (v : Byte) : (v - 1).toNat = (v.toNat + 255) % 256 := by revert v; decide +kernel

/-- The m of INI and IND as a number (R139). -/
def Dir.m : Dir → Nat → Nat | .inc, c => (c + 1) % 256 | .dec, c => (c + 255) % 256

theorem State.frame_inIteration (s : State) (d : Dir) (m : Touch) (hr : ∀ r ∈ [Reg8.b, .h, .l], r ∈ m.regs) (hf :
    ∀ g, g ∈ m.flags) (hs : s.hl ∈ m.stored) (h1 : .draws ∈ m.special) (h2 : .events ∈ m.special) :
    m.Frame s (s.inIteration d) := by
  unfold State.inIteration
  exact ((((((Touch.Frame.refl _ s).record h2 _).drew h1).write hs _).setHl (hr _ (by simp)) (hr _ (by simp))
      _).setReg (hr _ (by simp)) _).assign _ fun g h => hf g

/-- INI and IND. -/
theorem State.inIteration_spec (s : State) (d : Dir) : BlockInput s (Dir.word d) (Dir.m d (s.getReg .c).toNat)
    false (s.portByte s.bc) ((s.inIteration d).advance 2) where
  event := by simp [State.inIteration, State.advance, State.portRead]
  stored := by simp [State.inIteration]
  hl := by simp [State.inIteration, State.advance, Dir.step_eq]; simp [State.hl_eq, State.getReg_setReg,
      State.getReg_setHl]
  b := by
    simp only [State.inIteration, State.getReg_advance, State.getReg_assign, State.getReg_setReg_same, byte_pred]
  flags := by
    apply State.hasIoFlags_assign
    · simp
    · cases d <;> simp [Dir.stepByte, Dir.m, State.getReg_setReg, State.getReg_setHl, BitVec.toNat_sub,
        BitVec.toNat_add, State.portRead] <;> omega
  pc := by simp [State.inIteration, State.portRead]
  frame := (State.frame_inIteration s d _ (by simp) mem_allFlags (by simp) (by simp) (by simp)).advance 2

/-- One iteration of INIR and INDR. -/
theorem State.repeatIo_in_spec (s : State) (d : Dir) : BlockInput s (Dir.word d) (Dir.m d (s.getReg .c).toNat)
    (decide ((s.getReg .b).toNat ≠ 1)) (s.portByte s.bc) ((s.inIteration d).repeatIo) := by
  have k := State.inIteration_spec s d
  have hz : ((s.inIteration d).getReg .b != 0) = decide ((s.getReg .b).toNat ≠ 1) := by
    have hb := k.b
    simp only [State.getReg_advance] at hb
    have := (s.getReg .b).isLt; have := ((s.inIteration d).getReg .b).isLt
    rw [Bool.eq_iff_iff]; simp [BitVec.toNat_eq]; omega
  unfold State.repeatIo
  rw [hz]
  by_cases h : (s.getReg .b).toNat ≠ 1
  · rw [decide_eq_true h, if_pos rfl]
    constructor
    · simpa [State.drawHPvYX, State.drawFlag, State.advance] using k.event
    · simpa [State.drawHPvYX, State.drawFlag, State.advance] using k.stored
    · simpa [State.drawHPvYX, State.drawFlag, State.advance] using k.hl
    · simpa [State.drawHPvYX, State.drawFlag, State.advance] using k.b
    · constructor
      · simpa [State.drawHPvYX, State.drawFlag, FlagSet.get, FlagSet.only] using k.flags.sign
      · simpa [State.drawHPvYX, State.drawFlag, FlagSet.get, FlagSet.only] using k.flags.zero
      · simpa [State.drawHPvYX, State.drawFlag, FlagSet.get, FlagSet.only] using k.flags.n
      · simpa [State.drawHPvYX, State.drawFlag, FlagSet.get, FlagSet.only] using k.flags.carry
      all_goals simp
    · simp [State.drawHPvYX, State.drawFlag, State.inIteration, State.portRead]
    · have hf := State.frame_inIteration s d
        { regs := [.b, .h, .l], flags := allFlags, stored := [s.hl], special := [.draws, .events] }
        (by simp) mem_allFlags (by simp) (by simp) (by simp)
      exact (((hf.drawFlag _ (mem_allFlags _) (by simp)).drawFlag _ (mem_allFlags _) (by simp)).drawFlag _
        (mem_allFlags _) (by simp)).drawFlag _ (mem_allFlags _) (by simp)
  · rw [decide_eq_false h]; exact k

theorem State.frame_outIteration (s : State) (d : Dir) (m : Touch) (hr : ∀ r ∈ [Reg8.b, .h, .l], r ∈ m.regs)
    (hf : ∀ g, g ∈ m.flags) (h2 : .events ∈ m.special) : m.Frame s (s.outIteration d) := by
  unfold State.outIteration
  exact ((((Touch.Frame.refl _ s).setReg (hr _ (by simp)) _).record h2 _).setHl (hr _ (by simp)) (hr _ (by simp))
      _).assign _ fun g h => hf g

/-- OUTI and OUTD. -/
theorem State.outIteration_spec (s : State) (d : Dir) : BlockOutput s (Dir.word d)
    false ((s.outIteration d).advance 2) where
  event := by simp [State.outIteration, State.advance, State.portWrite, State.getReg_setHl]; simp [State.bc_eq,
      State.getReg_setReg]
  hl := by simp [State.outIteration, State.advance, Dir.step_eq, State.portWrite]; simp [State.hl_eq,
      State.getReg_setReg]
  b := by
    simp only [State.outIteration, State.portWrite, State.getReg_advance, State.getReg_assign, State.getReg_setHl]
    simp only [State.getReg_record, State.getReg_setReg_same]
    exact byte_pred _
  flags := by
    apply State.hasIoFlags_assign
    · simp
    · simp [State.outIteration]
  pc := by simp [State.outIteration, State.portWrite]
  frame := (State.frame_outIteration s d _ (by simp) mem_allFlags (by simp)).advance 2

/-- One iteration of OTIR and OTDR. -/
theorem State.repeatIo_out_spec (s : State) (d : Dir) : BlockOutput s (Dir.word d)
    (decide ((s.getReg .b).toNat ≠ 1)) ((s.outIteration d).repeatIo) := by
  have k := State.outIteration_spec s d
  have hz : ((s.outIteration d).getReg .b != 0) = decide ((s.getReg .b).toNat ≠ 1) := by
    have hb := k.b
    simp only [State.getReg_advance] at hb
    have := (s.getReg .b).isLt; have := ((s.outIteration d).getReg .b).isLt
    rw [Bool.eq_iff_iff]; simp [BitVec.toNat_eq]; omega
  unfold State.repeatIo
  rw [hz]
  by_cases h : (s.getReg .b).toNat ≠ 1
  · rw [decide_eq_true h, if_pos rfl]
    constructor
    · simpa [State.drawHPvYX, State.drawFlag, State.advance] using k.event
    · simpa [State.drawHPvYX, State.drawFlag, State.advance] using k.hl
    · simpa [State.drawHPvYX, State.drawFlag, State.advance] using k.b
    · constructor
      · simpa [State.drawHPvYX, State.drawFlag, FlagSet.get, FlagSet.only] using k.flags.sign
      · simpa [State.drawHPvYX, State.drawFlag, FlagSet.get, FlagSet.only] using k.flags.zero
      · simpa [State.drawHPvYX, State.drawFlag, FlagSet.get, FlagSet.only] using k.flags.n
      · simpa [State.drawHPvYX, State.drawFlag, FlagSet.get, FlagSet.only] using k.flags.carry
      all_goals simp
    · simp [State.drawHPvYX, State.drawFlag, State.outIteration, State.portWrite]
    · have hf := State.frame_outIteration s d { regs := [.b, .h, .l], flags := allFlags, special := [.draws,
        .events] } (by simp) mem_allFlags (by simp)
      exact (((hf.drawFlag _ (mem_allFlags _) (by simp)).drawFlag _ (mem_allFlags _) (by simp)).drawFlag _
        (mem_allFlags _) (by simp)).drawFlag _ (mem_allFlags _) (by simp)
  · rw [decide_eq_false h]; exact k

end Sys2Proof.Machine
end

