-- ==== Sys2Proof/Laws/Built.lean ====
section
/-! SUPPORT. What a step can do, said once: every meaning answers a next state that is built from the start state by the base
updates of Machine/Ops.lean. What all base updates keep, every step keeps. -/

namespace Sys2Proof.Machine

/-- t is built from s by base updates. -/
inductive Built (s : State) : State → Prop
  | refl : Built s s
  | setView {t : State} (h : Built s t) (k : Bank) : Built s (t.setView k)
  | setOther {t : State} (h : Built s t) (k : Bank) : Built s (t.setOther k)
  | setSp {t : State} (h : Built s t) (v : Word) : Built s (t.setSp v)
  | jump {t : State} (h : Built s t) (v : Word) : Built s (t.jump v)
  | setI {t : State} (h : Built s t) (v : Byte) : Built s (t.setI v)
  | setRefresh {t : State} (h : Built s t) (v : Byte) : Built s (t.setRefresh v)
  | setIff1 {t : State} (h : Built s t) (v : Bool) : Built s (t.setIff1 v)
  | setIff2 {t : State} (h : Built s t) (v : Bool) : Built s (t.setIff2 v)
  | setIm {t : State} (h : Built s t) (v : IntMode) : Built s (t.setIm v)
  | setHalted {t : State} (h : Built s t) (v : Bool) : Built s (t.setHalted v)
  | drew {t : State} (h : Built s t) : Built s t.drew
  | record {t : State} (h : Built s t) (e : IoEvent) : Built s (t.record e)
  | write {t : State} (h : Built s t) (a : Word) (v : Byte) : Built s (t.write a v)
  | setIdx {t : State} (h : Built s t) (x : Idx) (v : Word) : Built s (t.setIdx x v)

variable {s t : State}

/-! ## The shared operations are built from base updates -/

theorem Built.setReg (h : Built s t) (r : Reg8) (v : Byte) : Built s (t.setReg r v) := h.setView _
theorem Built.setA (h : Built s t) (v : Byte) : Built s (t.setA v) := h.setView _
theorem Built.setBc (h : Built s t) (v : Word) : Built s (t.setBc v) := h.setView _
theorem Built.setDe (h : Built s t) (v : Word) : Built s (t.setDe v) := h.setView _
theorem Built.setHl (h : Built s t) (v : Word) : Built s (t.setHl v) := h.setView _
theorem Built.setAf (h : Built s t) (v : Word) : Built s (t.setAf v) := h.setView _
theorem Built.assign (h : Built s t) (fl : FlagSet) : Built s (t.assign fl) := h.setView _
theorem Built.advance (h : Built s t) (n : Word) : Built s (t.advance n) := h.jump _
theorem Built.write16 (h : Built s t) (a v : Word) : Built s (t.write16 a v) := (h.write _ _).write _ _
theorem Built.push16 (h : Built s t) (v : Word) : Built s (t.push16 v) := (h.setSp _).write16 _ _
theorem Built.dropTop (h : Built s t) : Built s t.dropTop := h.setSp _
theorem Built.callTo (h : Built s t) (ret target : Word) : Built s (t.callTo ret target) := (h.push16 _).jump _
theorem Built.returnPop (h : Built s t) : Built s t.returnPop := h.dropTop.jump _
theorem Built.returnFromInterrupt (h : Built s t) : Built s t.returnFromInterrupt := h.returnPop.setIff1 _
theorem Built.portRead (h : Built s t) (p : Word) : Built s (t.portRead p) := (h.record _).drew
theorem Built.portWrite (h : Built s t) (p : Word) (v : Byte) : Built s (t.portWrite p v) := h.record _
theorem Built.toA (h : Built s t) (p : Byte × FlagSet) : Built s (t.toA p) := (h.setA _).assign _
theorem Built.addA (h : Built s t) (v : Byte) : Built s (t.addA v) := h.toA _
theorem Built.adcA (h : Built s t) (v : Byte) : Built s (t.adcA v) := h.toA _
theorem Built.subA (h : Built s t) (v : Byte) : Built s (t.subA v) := h.toA _
theorem Built.sbcA (h : Built s t) (v : Byte) : Built s (t.sbcA v) := h.toA _
theorem Built.andA (h : Built s t) (v : Byte) : Built s (t.andA v) := h.toA _
theorem Built.xorA (h : Built s t) (v : Byte) : Built s (t.xorA v) := h.toA _
theorem Built.orA (h : Built s t) (v : Byte) : Built s (t.orA v) := h.toA _
theorem Built.cpA (h : Built s t) (v : Byte) : Built s (t.cpA v) := h.assign _
theorem Built.toHl (h : Built s t) (p : Word × FlagSet) : Built s (t.toHl p) := (h.setHl _).assign _
theorem Built.drawFlag (h : Built s t) (g : Flag) : Built s (t.drawFlag g) := (h.assign _).drew
theorem Built.drawYX (h : Built s t) : Built s t.drawYX := (h.drawFlag _).drawFlag _
theorem Built.drawHPvYX (h : Built s t) : Built s t.drawHPvYX :=
  (((h.drawFlag _).drawFlag _).drawFlag _).drawFlag _

theorem Built.setHalf (h : Built s t) (x : Idx) (w : Half) (v : Byte) : Built s (t.setHalf x w v) := by
  cases w <;> exact h.setIdx _ _

theorem Built.setLoc (h : Built s t) (z : Loc8) (v : Byte) : Built s (t.setLoc z v) := by
  cases z with
  | reg r => exact h.setReg _ _
  | atHL => exact h.write _ _

theorem Built.setPair (h : Built s t) (p : Pair) (v : Word) : Built s (t.setPair p v) := by
  cases p
  · exact h.setBc v
  · exact h.setDe v
  · exact h.setHl v
  · exact h.setSp v

theorem Built.setStackPair (h : Built s t) (p : StackPair) (v : Word) : Built s (t.setStackPair p v) := by
  cases p
  · exact h.setBc v
  · exact h.setDe v
  · exact h.setHl v
  · exact h.setAf v

theorem Built.copyTo (h : Built s t) (c : Option Reg8) (v : Byte) : Built s (t.copyTo c v) := by
  cases c with
  | none => exact h
  | some r => exact h.setReg _ _

theorem Built.modifyLoc (h : Built s t) (z : Loc8) (f : Byte → Byte × FlagSet) : Built s (t.modifyLoc z f) :=
  (h.setLoc _ _).assign _

theorem Built.modifyAt (h : Built s t) (a : Word) (f : Byte → Byte × FlagSet) : Built s (t.modifyAt a f) :=
  (h.write _ _).assign _

theorem Built.modifyHalf (h : Built s t) (x : Idx) (w : Half) (f : Byte → Byte × FlagSet) :
    Built s (t.modifyHalf x w f) :=
  (h.setHalf _ _ _).assign _

theorem Built.rotA (h : Built s t) (f : RotFn) : Built s (t.rotA f) := (h.setA _).assign _
theorem Built.rotLoc (h : Built s t) (f : RotFn) (z : Loc8) : Built s (t.rotLoc f z) := (h.setLoc _ _).assign _
theorem Built.rotAt (h : Built s t) (f : RotFn) (a : Word) (c : Option Reg8) : Built s (t.rotAt f a c) :=
  ((h.write _ _).copyTo _ _).assign _
theorem Built.storeCopy (h : Built s t) (a : Word) (v : Byte) (c : Option Reg8) : Built s (t.storeCopy a v c) :=
  (h.write _ _).copyTo _ _

theorem Built.ite {u : State} (c : Prop) [Decidable c] (h : Built s t) (k : Built s u) :
    Built s (if c then t else u) := by
  split
  · exact h
  · exact k

theorem Built.ldIteration (h : Built s t) (d : Dir) : Built s (t.ldIteration d) :=
  ((((h.write _ _).setHl _).setDe _).setBc _).assign _
theorem Built.cpIteration (h : Built s t) (d : Dir) : Built s (t.cpIteration d) := ((h.setHl _).setBc _).assign _
theorem Built.inIteration (h : Built s t) (d : Dir) : Built s (t.inIteration d) :=
  ((((h.portRead _).write _ _).setHl _).setReg _ _).assign _
theorem Built.outIteration (h : Built s t) (d : Dir) : Built s (t.outIteration d) :=
  (((h.setReg _ _).portWrite _ _).setHl _).assign _
theorem Built.repeatLd (h : Built s t) : Built s t.repeatLd := h.drawYX.ite _ (h.advance _)
theorem Built.repeatCp (h : Built s t) : Built s t.repeatCp := h.drawYX.ite _ (h.advance _)
theorem Built.repeatIo (h : Built s t) : Built s t.repeatIo := h.drawHPvYX.ite _ (h.advance _)

theorem Built.trans {u : State} (h : Built s t) (k : Built t u) : Built s u := by
  induction k with
  | refl => exact h
  | setView _ _ ih => exact ih.setView _
  | setOther _ _ ih => exact ih.setOther _
  | setSp _ _ ih => exact ih.setSp _
  | jump _ _ ih => exact ih.jump _
  | setI _ _ ih => exact ih.setI _
  | setRefresh _ _ ih => exact ih.setRefresh _
  | setIff1 _ _ ih => exact ih.setIff1 _
  | setIff2 _ _ ih => exact ih.setIff2 _
  | setIm _ _ ih => exact ih.setIm _
  | setHalted _ _ ih => exact ih.setHalted _
  | drew _ ih => exact ih.drew
  | record _ _ ih => exact ih.record _
  | write _ _ _ ih => exact ih.write _ _
  | setIdx _ _ _ ih => exact ih.setIdx _ _

/-! ## Every meaning is built so -/

/-- The answer is a next state built from s. -/
def Answers (s : State) (r : Result) : Prop := ∃ t, r = .next t ∧ Built s t

/-- `exec_main` of an unprefixed row. -/
theorem execMain_answers (i : Instr) (s : State) (h : i.isMain = true) : Answers s (execMain i s) := by
  cases i <;> first | exact absurd h Bool.false_ne_true | refine ⟨_, rfl, ?_⟩
  all_goals
    repeat' first
    | exact Built.refl
    | with_reducible apply Built.setReg
    | with_reducible apply Built.setA
    | with_reducible apply Built.setBc
    | with_reducible apply Built.setDe
    | with_reducible apply Built.setHl
    | with_reducible apply Built.setAf
    | with_reducible apply Built.assign
    | with_reducible apply Built.advance
    | with_reducible apply Built.write16
    | with_reducible apply Built.push16
    | with_reducible apply Built.dropTop
    | with_reducible apply Built.callTo
    | with_reducible apply Built.returnPop
    | with_reducible apply Built.returnFromInterrupt
    | with_reducible apply Built.portRead
    | with_reducible apply Built.portWrite
    | with_reducible apply Built.toA
    | with_reducible apply Built.addA
    | with_reducible apply Built.adcA
    | with_reducible apply Built.subA
    | with_reducible apply Built.sbcA
    | with_reducible apply Built.andA
    | with_reducible apply Built.xorA
    | with_reducible apply Built.orA
    | with_reducible apply Built.cpA
    | with_reducible apply Built.toHl
    | with_reducible apply Built.drawFlag
    | with_reducible apply Built.drawYX
    | with_reducible apply Built.drawHPvYX
    | with_reducible apply Built.setHalf
    | with_reducible apply Built.setLoc
    | with_reducible apply Built.setPair
    | with_reducible apply Built.setStackPair
    | with_reducible apply Built.copyTo
    | with_reducible apply Built.modifyLoc
    | with_reducible apply Built.modifyAt
    | with_reducible apply Built.modifyHalf
    | with_reducible apply Built.rotA
    | with_reducible apply Built.rotLoc
    | with_reducible apply Built.rotAt
    | with_reducible apply Built.storeCopy
    | with_reducible apply Built.ldIteration
    | with_reducible apply Built.cpIteration
    | with_reducible apply Built.inIteration
    | with_reducible apply Built.outIteration
    | with_reducible apply Built.repeatLd
    | with_reducible apply Built.repeatCp
    | with_reducible apply Built.repeatIo
    | with_reducible apply Built.setView
    | with_reducible apply Built.setOther
    | with_reducible apply Built.setSp
    | with_reducible apply Built.jump
    | with_reducible apply Built.setI
    | with_reducible apply Built.setRefresh
    | with_reducible apply Built.setIff1
    | with_reducible apply Built.setIff2
    | with_reducible apply Built.setIm
    | with_reducible apply Built.setHalted
    | with_reducible apply Built.drew
    | with_reducible apply Built.record
    | with_reducible apply Built.write
    | with_reducible apply Built.setIdx
    | with_reducible apply Built.ite

/-- What a prefix falls through to is an unprefixed row. -/
theorem isMain_of_fallsThrough (i : Instr) (h : i.fallsThrough = true) : i.isMain = true := by
  cases i <;> first | rfl | exact absurd h Bool.false_ne_true

/-- Every well-formed instruction answers a next state built from the start state. -/
theorem exec_answers (i : Instr) (s : State) (h : i.wellFormed = true) : Answers s (exec i s) := by
  cases i
  case xyFallThrough x inner =>
    have hf : inner.fallsThrough = true := by
      simp only [Instr.wellFormed, Bool.and_eq_true] at h; exact h.1
    obtain ⟨t, ht, hb⟩ := execMain_answers inner (s.advance 1) (isMain_of_fallsThrough inner hf)
    exact ⟨t, ht, (Built.refl.advance 1).trans hb⟩
  all_goals refine ⟨_, rfl, ?_⟩
  all_goals
    repeat' first
    | exact Built.refl
    | with_reducible apply Built.setReg
    | with_reducible apply Built.setA
    | with_reducible apply Built.setBc
    | with_reducible apply Built.setDe
    | with_reducible apply Built.setHl
    | with_reducible apply Built.setAf
    | with_reducible apply Built.assign
    | with_reducible apply Built.advance
    | with_reducible apply Built.write16
    | with_reducible apply Built.push16
    | with_reducible apply Built.dropTop
    | with_reducible apply Built.callTo
    | with_reducible apply Built.returnPop
    | with_reducible apply Built.returnFromInterrupt
    | with_reducible apply Built.portRead
    | with_reducible apply Built.portWrite
    | with_reducible apply Built.toA
    | with_reducible apply Built.addA
    | with_reducible apply Built.adcA
    | with_reducible apply Built.subA
    | with_reducible apply Built.sbcA
    | with_reducible apply Built.andA
    | with_reducible apply Built.xorA
    | with_reducible apply Built.orA
    | with_reducible apply Built.cpA
    | with_reducible apply Built.toHl
    | with_reducible apply Built.drawFlag
    | with_reducible apply Built.drawYX
    | with_reducible apply Built.drawHPvYX
    | with_reducible apply Built.setHalf
    | with_reducible apply Built.setLoc
    | with_reducible apply Built.setPair
    | with_reducible apply Built.setStackPair
    | with_reducible apply Built.copyTo
    | with_reducible apply Built.modifyLoc
    | with_reducible apply Built.modifyAt
    | with_reducible apply Built.modifyHalf
    | with_reducible apply Built.rotA
    | with_reducible apply Built.rotLoc
    | with_reducible apply Built.rotAt
    | with_reducible apply Built.storeCopy
    | with_reducible apply Built.ldIteration
    | with_reducible apply Built.cpIteration
    | with_reducible apply Built.inIteration
    | with_reducible apply Built.outIteration
    | with_reducible apply Built.repeatLd
    | with_reducible apply Built.repeatCp
    | with_reducible apply Built.repeatIo
    | with_reducible apply Built.setView
    | with_reducible apply Built.setOther
    | with_reducible apply Built.setSp
    | with_reducible apply Built.jump
    | with_reducible apply Built.setI
    | with_reducible apply Built.setRefresh
    | with_reducible apply Built.setIff1
    | with_reducible apply Built.setIff2
    | with_reducible apply Built.setIm
    | with_reducible apply Built.setHalted
    | with_reducible apply Built.drew
    | with_reducible apply Built.record
    | with_reducible apply Built.write
    | with_reducible apply Built.setIdx
    | with_reducible apply Built.ite

/-! ## What every base update keeps -/

/-- ALT and the parameters (R26). -/
theorem Built.alt_params (h : Built s t) : t.alt = s.alt ∧ t.params = s.params := by
  induction h with
  | refl => exact ⟨rfl, rfl⟩
  | _ => simp_all

/-- The invariant. -/
theorem Built.inv (h : Built s t) (hs : s.Inv) : t.Inv := by
  induction h with
  | refl => exact hs
  | write h a v ih =>
    refine ⟨by simpa using ih.size, by simpa using Memory.wf_set _ _ ih.canonical, ?_⟩
    have hz := ih.size
    refine Memory.bound_set (Nat.mod_lt _ (Nat.pos_of_ne_zero fun e => hz (BitVec.eq_of_toNat_eq e))) ih.cells
  | _ => exact ⟨by simpa using (by assumption : State.Inv _).size, by simpa using (by assumption : State.Inv _).canonical,
      by simpa using (by assumption : State.Inv _).cells⟩

end Sys2Proof.Machine
end

