-- ==== Sys2Proof/Laws/PerInstr.lean ====
section
/-! SUPPORT. The family Length, instruction by instruction: a well-formed instruction has 1 to 4 bytes (R80), and its encoding
has as many bytes as its length, but for a prefix no-op, whose row holds one byte more, which is only looked at (R99). -/

namespace Sys2Proof.Laws

/-- The two rows whose encoding holds a byte that is not theirs (R102). -/
def isNoOpRow : Instr → Bool
  | .xyThenXy _ _ | .xyThenEd _ => true
  | _ => false

/-- What the family says of an instruction. -/
def Length.Statement (i : Instr) : Prop :=
  i.wellFormed = true →
    1 ≤ i.length ∧ i.length ≤ 4 ∧ (encode i).length = i.length + (if isNoOpRow i then 1 else 0)

/-- An unprefixed row has at most three bytes, all its own. -/
theorem length_of_isMain (i : Instr) (h : i.isMain = true) :
    1 ≤ i.length ∧ i.length ≤ 3 ∧ (encode i).length = i.length := by
  cases i <;> first | exact absurd h Bool.false_ne_true | exact ⟨Nat.le_of_ble_eq_true rfl, Nat.le_of_ble_eq_true rfl, rfl⟩

theorem Length.nop : Length.Statement .nop :=
  fun _ => ⟨Nat.le_of_ble_eq_true rfl, Nat.le_of_ble_eq_true rfl, rfl⟩
theorem Length.ldRpNn (p : Pair) (nn : Word) : Length.Statement (.ldRpNn p nn) :=
  fun _ => ⟨Nat.le_of_ble_eq_true rfl, Nat.le_of_ble_eq_true rfl, rfl⟩
theorem Length.exAfAf : Length.Statement .exAfAf :=
  fun _ => ⟨Nat.le_of_ble_eq_true rfl, Nat.le_of_ble_eq_true rfl, rfl⟩
theorem Length.addHlRp (p : Pair) : Length.Statement (.addHlRp p) :=
  fun _ => ⟨Nat.le_of_ble_eq_true rfl, Nat.le_of_ble_eq_true rfl, rfl⟩
theorem Length.ldAtBcA : Length.Statement .ldAtBcA :=
  fun _ => ⟨Nat.le_of_ble_eq_true rfl, Nat.le_of_ble_eq_true rfl, rfl⟩
theorem Length.ldAtDeA : Length.Statement .ldAtDeA :=
  fun _ => ⟨Nat.le_of_ble_eq_true rfl, Nat.le_of_ble_eq_true rfl, rfl⟩
theorem Length.ldAAtBc : Length.Statement .ldAAtBc :=
  fun _ => ⟨Nat.le_of_ble_eq_true rfl, Nat.le_of_ble_eq_true rfl, rfl⟩
theorem Length.ldAAtDe : Length.Statement .ldAAtDe :=
  fun _ => ⟨Nat.le_of_ble_eq_true rfl, Nat.le_of_ble_eq_true rfl, rfl⟩
theorem Length.ldAtNnHl (nn : Word) : Length.Statement (.ldAtNnHl nn) :=
  fun _ => ⟨Nat.le_of_ble_eq_true rfl, Nat.le_of_ble_eq_true rfl, rfl⟩
theorem Length.ldHlAtNn (nn : Word) : Length.Statement (.ldHlAtNn nn) :=
  fun _ => ⟨Nat.le_of_ble_eq_true rfl, Nat.le_of_ble_eq_true rfl, rfl⟩
theorem Length.ldAtNnA (nn : Word) : Length.Statement (.ldAtNnA nn) :=
  fun _ => ⟨Nat.le_of_ble_eq_true rfl, Nat.le_of_ble_eq_true rfl, rfl⟩
theorem Length.ldAAtNn (nn : Word) : Length.Statement (.ldAAtNn nn) :=
  fun _ => ⟨Nat.le_of_ble_eq_true rfl, Nat.le_of_ble_eq_true rfl, rfl⟩
theorem Length.incRp (p : Pair) : Length.Statement (.incRp p) :=
  fun _ => ⟨Nat.le_of_ble_eq_true rfl, Nat.le_of_ble_eq_true rfl, rfl⟩
theorem Length.decRp (p : Pair) : Length.Statement (.decRp p) :=
  fun _ => ⟨Nat.le_of_ble_eq_true rfl, Nat.le_of_ble_eq_true rfl, rfl⟩
theorem Length.incR (y : Loc8) : Length.Statement (.incR y) :=
  fun _ => ⟨Nat.le_of_ble_eq_true rfl, Nat.le_of_ble_eq_true rfl, rfl⟩
theorem Length.decR (y : Loc8) : Length.Statement (.decR y) :=
  fun _ => ⟨Nat.le_of_ble_eq_true rfl, Nat.le_of_ble_eq_true rfl, rfl⟩
theorem Length.ldRN (y : Loc8) (n : Byte) : Length.Statement (.ldRN y n) :=
  fun _ => ⟨Nat.le_of_ble_eq_true rfl, Nat.le_of_ble_eq_true rfl, rfl⟩
theorem Length.rlca : Length.Statement .rlca :=
  fun _ => ⟨Nat.le_of_ble_eq_true rfl, Nat.le_of_ble_eq_true rfl, rfl⟩
theorem Length.rrca : Length.Statement .rrca :=
  fun _ => ⟨Nat.le_of_ble_eq_true rfl, Nat.le_of_ble_eq_true rfl, rfl⟩
theorem Length.rla : Length.Statement .rla :=
  fun _ => ⟨Nat.le_of_ble_eq_true rfl, Nat.le_of_ble_eq_true rfl, rfl⟩
theorem Length.rra : Length.Statement .rra :=
  fun _ => ⟨Nat.le_of_ble_eq_true rfl, Nat.le_of_ble_eq_true rfl, rfl⟩
theorem Length.daa : Length.Statement .daa :=
  fun _ => ⟨Nat.le_of_ble_eq_true rfl, Nat.le_of_ble_eq_true rfl, rfl⟩
theorem Length.cpl : Length.Statement .cpl :=
  fun _ => ⟨Nat.le_of_ble_eq_true rfl, Nat.le_of_ble_eq_true rfl, rfl⟩
theorem Length.scf : Length.Statement .scf :=
  fun _ => ⟨Nat.le_of_ble_eq_true rfl, Nat.le_of_ble_eq_true rfl, rfl⟩
theorem Length.ccf : Length.Statement .ccf :=
  fun _ => ⟨Nat.le_of_ble_eq_true rfl, Nat.le_of_ble_eq_true rfl, rfl⟩
theorem Length.djnz (e : Byte) : Length.Statement (.djnz e) :=
  fun _ => ⟨Nat.le_of_ble_eq_true rfl, Nat.le_of_ble_eq_true rfl, rfl⟩
theorem Length.jr (e : Byte) : Length.Statement (.jr e) :=
  fun _ => ⟨Nat.le_of_ble_eq_true rfl, Nat.le_of_ble_eq_true rfl, rfl⟩
theorem Length.jrCc (cc : Cond) (e : Byte) : Length.Statement (.jrCc cc e) :=
  fun _ => ⟨Nat.le_of_ble_eq_true rfl, Nat.le_of_ble_eq_true rfl, rfl⟩
theorem Length.halt : Length.Statement .halt :=
  fun _ => ⟨Nat.le_of_ble_eq_true rfl, Nat.le_of_ble_eq_true rfl, rfl⟩
theorem Length.ldRR (dst : Reg8) (src : Reg8) : Length.Statement (.ldRR dst src) :=
  fun _ => ⟨Nat.le_of_ble_eq_true rfl, Nat.le_of_ble_eq_true rfl, rfl⟩
theorem Length.ldRAtHl (dst : Reg8) : Length.Statement (.ldRAtHl dst) :=
  fun _ => ⟨Nat.le_of_ble_eq_true rfl, Nat.le_of_ble_eq_true rfl, rfl⟩
theorem Length.ldAtHlR (src : Reg8) : Length.Statement (.ldAtHlR src) :=
  fun _ => ⟨Nat.le_of_ble_eq_true rfl, Nat.le_of_ble_eq_true rfl, rfl⟩
theorem Length.addAR (z : Loc8) : Length.Statement (.addAR z) :=
  fun _ => ⟨Nat.le_of_ble_eq_true rfl, Nat.le_of_ble_eq_true rfl, rfl⟩
theorem Length.adcAR (z : Loc8) : Length.Statement (.adcAR z) :=
  fun _ => ⟨Nat.le_of_ble_eq_true rfl, Nat.le_of_ble_eq_true rfl, rfl⟩
theorem Length.subR (z : Loc8) : Length.Statement (.subR z) :=
  fun _ => ⟨Nat.le_of_ble_eq_true rfl, Nat.le_of_ble_eq_true rfl, rfl⟩
theorem Length.sbcAR (z : Loc8) : Length.Statement (.sbcAR z) :=
  fun _ => ⟨Nat.le_of_ble_eq_true rfl, Nat.le_of_ble_eq_true rfl, rfl⟩
theorem Length.andR (z : Loc8) : Length.Statement (.andR z) :=
  fun _ => ⟨Nat.le_of_ble_eq_true rfl, Nat.le_of_ble_eq_true rfl, rfl⟩
theorem Length.xorR (z : Loc8) : Length.Statement (.xorR z) :=
  fun _ => ⟨Nat.le_of_ble_eq_true rfl, Nat.le_of_ble_eq_true rfl, rfl⟩
theorem Length.orR (z : Loc8) : Length.Statement (.orR z) :=
  fun _ => ⟨Nat.le_of_ble_eq_true rfl, Nat.le_of_ble_eq_true rfl, rfl⟩
theorem Length.cpR (z : Loc8) : Length.Statement (.cpR z) :=
  fun _ => ⟨Nat.le_of_ble_eq_true rfl, Nat.le_of_ble_eq_true rfl, rfl⟩
theorem Length.retCc (cc : Cond) : Length.Statement (.retCc cc) :=
  fun _ => ⟨Nat.le_of_ble_eq_true rfl, Nat.le_of_ble_eq_true rfl, rfl⟩
theorem Length.popRp2 (p : StackPair) : Length.Statement (.popRp2 p) :=
  fun _ => ⟨Nat.le_of_ble_eq_true rfl, Nat.le_of_ble_eq_true rfl, rfl⟩
theorem Length.ret : Length.Statement .ret :=
  fun _ => ⟨Nat.le_of_ble_eq_true rfl, Nat.le_of_ble_eq_true rfl, rfl⟩
theorem Length.exx : Length.Statement .exx :=
  fun _ => ⟨Nat.le_of_ble_eq_true rfl, Nat.le_of_ble_eq_true rfl, rfl⟩
theorem Length.jpAtHl : Length.Statement .jpAtHl :=
  fun _ => ⟨Nat.le_of_ble_eq_true rfl, Nat.le_of_ble_eq_true rfl, rfl⟩
theorem Length.ldSpHl : Length.Statement .ldSpHl :=
  fun _ => ⟨Nat.le_of_ble_eq_true rfl, Nat.le_of_ble_eq_true rfl, rfl⟩
theorem Length.jpCcNn (cc : Cond) (nn : Word) : Length.Statement (.jpCcNn cc nn) :=
  fun _ => ⟨Nat.le_of_ble_eq_true rfl, Nat.le_of_ble_eq_true rfl, rfl⟩
theorem Length.jpNn (nn : Word) : Length.Statement (.jpNn nn) :=
  fun _ => ⟨Nat.le_of_ble_eq_true rfl, Nat.le_of_ble_eq_true rfl, rfl⟩
theorem Length.outAtNA (n : Byte) : Length.Statement (.outAtNA n) :=
  fun _ => ⟨Nat.le_of_ble_eq_true rfl, Nat.le_of_ble_eq_true rfl, rfl⟩
theorem Length.inAAtN (n : Byte) : Length.Statement (.inAAtN n) :=
  fun _ => ⟨Nat.le_of_ble_eq_true rfl, Nat.le_of_ble_eq_true rfl, rfl⟩
theorem Length.exAtSpHl : Length.Statement .exAtSpHl :=
  fun _ => ⟨Nat.le_of_ble_eq_true rfl, Nat.le_of_ble_eq_true rfl, rfl⟩
theorem Length.exDeHl : Length.Statement .exDeHl :=
  fun _ => ⟨Nat.le_of_ble_eq_true rfl, Nat.le_of_ble_eq_true rfl, rfl⟩
theorem Length.di : Length.Statement .di :=
  fun _ => ⟨Nat.le_of_ble_eq_true rfl, Nat.le_of_ble_eq_true rfl, rfl⟩
theorem Length.ei : Length.Statement .ei :=
  fun _ => ⟨Nat.le_of_ble_eq_true rfl, Nat.le_of_ble_eq_true rfl, rfl⟩
theorem Length.callCcNn (cc : Cond) (nn : Word) : Length.Statement (.callCcNn cc nn) :=
  fun _ => ⟨Nat.le_of_ble_eq_true rfl, Nat.le_of_ble_eq_true rfl, rfl⟩
theorem Length.pushRp2 (p : StackPair) : Length.Statement (.pushRp2 p) :=
  fun _ => ⟨Nat.le_of_ble_eq_true rfl, Nat.le_of_ble_eq_true rfl, rfl⟩
theorem Length.callNn (nn : Word) : Length.Statement (.callNn nn) :=
  fun _ => ⟨Nat.le_of_ble_eq_true rfl, Nat.le_of_ble_eq_true rfl, rfl⟩
theorem Length.addAN (n : Byte) : Length.Statement (.addAN n) :=
  fun _ => ⟨Nat.le_of_ble_eq_true rfl, Nat.le_of_ble_eq_true rfl, rfl⟩
theorem Length.adcAN (n : Byte) : Length.Statement (.adcAN n) :=
  fun _ => ⟨Nat.le_of_ble_eq_true rfl, Nat.le_of_ble_eq_true rfl, rfl⟩
theorem Length.subN (n : Byte) : Length.Statement (.subN n) :=
  fun _ => ⟨Nat.le_of_ble_eq_true rfl, Nat.le_of_ble_eq_true rfl, rfl⟩
theorem Length.sbcAN (n : Byte) : Length.Statement (.sbcAN n) :=
  fun _ => ⟨Nat.le_of_ble_eq_true rfl, Nat.le_of_ble_eq_true rfl, rfl⟩
theorem Length.andN (n : Byte) : Length.Statement (.andN n) :=
  fun _ => ⟨Nat.le_of_ble_eq_true rfl, Nat.le_of_ble_eq_true rfl, rfl⟩
theorem Length.xorN (n : Byte) : Length.Statement (.xorN n) :=
  fun _ => ⟨Nat.le_of_ble_eq_true rfl, Nat.le_of_ble_eq_true rfl, rfl⟩
theorem Length.orN (n : Byte) : Length.Statement (.orN n) :=
  fun _ => ⟨Nat.le_of_ble_eq_true rfl, Nat.le_of_ble_eq_true rfl, rfl⟩
theorem Length.cpN (n : Byte) : Length.Statement (.cpN n) :=
  fun _ => ⟨Nat.le_of_ble_eq_true rfl, Nat.le_of_ble_eq_true rfl, rfl⟩
theorem Length.rst (y : BitVec 3) : Length.Statement (.rst y) :=
  fun _ => ⟨Nat.le_of_ble_eq_true rfl, Nat.le_of_ble_eq_true rfl, rfl⟩
theorem Length.rlcR (z : Loc8) : Length.Statement (.rlcR z) :=
  fun _ => ⟨Nat.le_of_ble_eq_true rfl, Nat.le_of_ble_eq_true rfl, rfl⟩
theorem Length.rrcR (z : Loc8) : Length.Statement (.rrcR z) :=
  fun _ => ⟨Nat.le_of_ble_eq_true rfl, Nat.le_of_ble_eq_true rfl, rfl⟩
theorem Length.rlR (z : Loc8) : Length.Statement (.rlR z) :=
  fun _ => ⟨Nat.le_of_ble_eq_true rfl, Nat.le_of_ble_eq_true rfl, rfl⟩
theorem Length.rrR (z : Loc8) : Length.Statement (.rrR z) :=
  fun _ => ⟨Nat.le_of_ble_eq_true rfl, Nat.le_of_ble_eq_true rfl, rfl⟩
theorem Length.slaR (z : Loc8) : Length.Statement (.slaR z) :=
  fun _ => ⟨Nat.le_of_ble_eq_true rfl, Nat.le_of_ble_eq_true rfl, rfl⟩
theorem Length.sraR (z : Loc8) : Length.Statement (.sraR z) :=
  fun _ => ⟨Nat.le_of_ble_eq_true rfl, Nat.le_of_ble_eq_true rfl, rfl⟩
theorem Length.sllR (z : Loc8) : Length.Statement (.sllR z) :=
  fun _ => ⟨Nat.le_of_ble_eq_true rfl, Nat.le_of_ble_eq_true rfl, rfl⟩
theorem Length.srlR (z : Loc8) : Length.Statement (.srlR z) :=
  fun _ => ⟨Nat.le_of_ble_eq_true rfl, Nat.le_of_ble_eq_true rfl, rfl⟩
theorem Length.bitR (b : BitVec 3) (r : Reg8) : Length.Statement (.bitR b r) :=
  fun _ => ⟨Nat.le_of_ble_eq_true rfl, Nat.le_of_ble_eq_true rfl, rfl⟩
theorem Length.bitAtHl (b : BitVec 3) : Length.Statement (.bitAtHl b) :=
  fun _ => ⟨Nat.le_of_ble_eq_true rfl, Nat.le_of_ble_eq_true rfl, rfl⟩
theorem Length.resR (b : BitVec 3) (z : Loc8) : Length.Statement (.resR b z) :=
  fun _ => ⟨Nat.le_of_ble_eq_true rfl, Nat.le_of_ble_eq_true rfl, rfl⟩
theorem Length.setR (b : BitVec 3) (z : Loc8) : Length.Statement (.setR b z) :=
  fun _ => ⟨Nat.le_of_ble_eq_true rfl, Nat.le_of_ble_eq_true rfl, rfl⟩
theorem Length.inRAtC (r : Reg8) : Length.Statement (.inRAtC r) :=
  fun _ => ⟨Nat.le_of_ble_eq_true rfl, Nat.le_of_ble_eq_true rfl, rfl⟩
theorem Length.inAtC : Length.Statement .inAtC :=
  fun _ => ⟨Nat.le_of_ble_eq_true rfl, Nat.le_of_ble_eq_true rfl, rfl⟩
theorem Length.outAtCR (r : Reg8) : Length.Statement (.outAtCR r) :=
  fun _ => ⟨Nat.le_of_ble_eq_true rfl, Nat.le_of_ble_eq_true rfl, rfl⟩
theorem Length.outAtC0 : Length.Statement .outAtC0 :=
  fun _ => ⟨Nat.le_of_ble_eq_true rfl, Nat.le_of_ble_eq_true rfl, rfl⟩
theorem Length.sbcHlRp (p : Pair) : Length.Statement (.sbcHlRp p) :=
  fun _ => ⟨Nat.le_of_ble_eq_true rfl, Nat.le_of_ble_eq_true rfl, rfl⟩
theorem Length.adcHlRp (p : Pair) : Length.Statement (.adcHlRp p) :=
  fun _ => ⟨Nat.le_of_ble_eq_true rfl, Nat.le_of_ble_eq_true rfl, rfl⟩
theorem Length.ldAtNnRp (p : Pair) (nn : Word) : Length.Statement (.ldAtNnRp p nn) :=
  fun _ => ⟨Nat.le_of_ble_eq_true rfl, Nat.le_of_ble_eq_true rfl, rfl⟩
theorem Length.ldRpAtNn (p : Pair) (nn : Word) : Length.Statement (.ldRpAtNn p nn) :=
  fun _ => ⟨Nat.le_of_ble_eq_true rfl, Nat.le_of_ble_eq_true rfl, rfl⟩
theorem Length.neg (y : BitVec 3) : Length.Statement (.neg y) :=
  fun _ => ⟨Nat.le_of_ble_eq_true rfl, Nat.le_of_ble_eq_true rfl, rfl⟩
theorem Length.retn (y : BitVec 3) : Length.Statement (.retn y) :=
  fun _ => ⟨Nat.le_of_ble_eq_true rfl, Nat.le_of_ble_eq_true rfl, rfl⟩
theorem Length.reti : Length.Statement .reti :=
  fun _ => ⟨Nat.le_of_ble_eq_true rfl, Nat.le_of_ble_eq_true rfl, rfl⟩
theorem Length.im0 (u : BitVec 1) : Length.Statement (.im0 u) :=
  fun _ => ⟨Nat.le_of_ble_eq_true rfl, Nat.le_of_ble_eq_true rfl, rfl⟩
theorem Length.im0Star (u : BitVec 1) : Length.Statement (.im0Star u) :=
  fun _ => ⟨Nat.le_of_ble_eq_true rfl, Nat.le_of_ble_eq_true rfl, rfl⟩
theorem Length.im1 (u : BitVec 1) : Length.Statement (.im1 u) :=
  fun _ => ⟨Nat.le_of_ble_eq_true rfl, Nat.le_of_ble_eq_true rfl, rfl⟩
theorem Length.im2 (u : BitVec 1) : Length.Statement (.im2 u) :=
  fun _ => ⟨Nat.le_of_ble_eq_true rfl, Nat.le_of_ble_eq_true rfl, rfl⟩
theorem Length.ldIA : Length.Statement .ldIA :=
  fun _ => ⟨Nat.le_of_ble_eq_true rfl, Nat.le_of_ble_eq_true rfl, rfl⟩
theorem Length.ldRefreshA : Length.Statement .ldRefreshA :=
  fun _ => ⟨Nat.le_of_ble_eq_true rfl, Nat.le_of_ble_eq_true rfl, rfl⟩
theorem Length.ldAI : Length.Statement .ldAI :=
  fun _ => ⟨Nat.le_of_ble_eq_true rfl, Nat.le_of_ble_eq_true rfl, rfl⟩
theorem Length.ldARefresh : Length.Statement .ldARefresh :=
  fun _ => ⟨Nat.le_of_ble_eq_true rfl, Nat.le_of_ble_eq_true rfl, rfl⟩
theorem Length.rrd : Length.Statement .rrd :=
  fun _ => ⟨Nat.le_of_ble_eq_true rfl, Nat.le_of_ble_eq_true rfl, rfl⟩
theorem Length.rld : Length.Statement .rld :=
  fun _ => ⟨Nat.le_of_ble_eq_true rfl, Nat.le_of_ble_eq_true rfl, rfl⟩
theorem Length.ldi : Length.Statement .ldi :=
  fun _ => ⟨Nat.le_of_ble_eq_true rfl, Nat.le_of_ble_eq_true rfl, rfl⟩
theorem Length.cpi : Length.Statement .cpi :=
  fun _ => ⟨Nat.le_of_ble_eq_true rfl, Nat.le_of_ble_eq_true rfl, rfl⟩
theorem Length.ini : Length.Statement .ini :=
  fun _ => ⟨Nat.le_of_ble_eq_true rfl, Nat.le_of_ble_eq_true rfl, rfl⟩
theorem Length.outi : Length.Statement .outi :=
  fun _ => ⟨Nat.le_of_ble_eq_true rfl, Nat.le_of_ble_eq_true rfl, rfl⟩
theorem Length.ldd : Length.Statement .ldd :=
  fun _ => ⟨Nat.le_of_ble_eq_true rfl, Nat.le_of_ble_eq_true rfl, rfl⟩
theorem Length.cpd : Length.Statement .cpd :=
  fun _ => ⟨Nat.le_of_ble_eq_true rfl, Nat.le_of_ble_eq_true rfl, rfl⟩
theorem Length.ind : Length.Statement .ind :=
  fun _ => ⟨Nat.le_of_ble_eq_true rfl, Nat.le_of_ble_eq_true rfl, rfl⟩
theorem Length.outd : Length.Statement .outd :=
  fun _ => ⟨Nat.le_of_ble_eq_true rfl, Nat.le_of_ble_eq_true rfl, rfl⟩
theorem Length.ldir : Length.Statement .ldir :=
  fun _ => ⟨Nat.le_of_ble_eq_true rfl, Nat.le_of_ble_eq_true rfl, rfl⟩
theorem Length.cpir : Length.Statement .cpir :=
  fun _ => ⟨Nat.le_of_ble_eq_true rfl, Nat.le_of_ble_eq_true rfl, rfl⟩
theorem Length.inir : Length.Statement .inir :=
  fun _ => ⟨Nat.le_of_ble_eq_true rfl, Nat.le_of_ble_eq_true rfl, rfl⟩
theorem Length.otir : Length.Statement .otir :=
  fun _ => ⟨Nat.le_of_ble_eq_true rfl, Nat.le_of_ble_eq_true rfl, rfl⟩
theorem Length.lddr : Length.Statement .lddr :=
  fun _ => ⟨Nat.le_of_ble_eq_true rfl, Nat.le_of_ble_eq_true rfl, rfl⟩
theorem Length.cpdr : Length.Statement .cpdr :=
  fun _ => ⟨Nat.le_of_ble_eq_true rfl, Nat.le_of_ble_eq_true rfl, rfl⟩
theorem Length.indr : Length.Statement .indr :=
  fun _ => ⟨Nat.le_of_ble_eq_true rfl, Nat.le_of_ble_eq_true rfl, rfl⟩
theorem Length.otdr : Length.Statement .otdr :=
  fun _ => ⟨Nat.le_of_ble_eq_true rfl, Nat.le_of_ble_eq_true rfl, rfl⟩
theorem Length.nopEd00 (u : BitVec 6) : Length.Statement (.nopEd00 u) :=
  fun _ => ⟨Nat.le_of_ble_eq_true rfl, Nat.le_of_ble_eq_true rfl, rfl⟩
theorem Length.nopEd77 (u : BitVec 1) : Length.Statement (.nopEd77 u) :=
  fun _ => ⟨Nat.le_of_ble_eq_true rfl, Nat.le_of_ble_eq_true rfl, rfl⟩
theorem Length.nopEd80 (u : BitVec 5) : Length.Statement (.nopEd80 u) :=
  fun _ => ⟨Nat.le_of_ble_eq_true rfl, Nat.le_of_ble_eq_true rfl, rfl⟩
theorem Length.nopEdA4 (v : BitVec 2) (w : BitVec 2) : Length.Statement (.nopEdA4 v w) :=
  fun _ => ⟨Nat.le_of_ble_eq_true rfl, Nat.le_of_ble_eq_true rfl, rfl⟩
theorem Length.nopEdC0 (u : BitVec 6) : Length.Statement (.nopEdC0 u) :=
  fun _ => ⟨Nat.le_of_ble_eq_true rfl, Nat.le_of_ble_eq_true rfl, rfl⟩
theorem Length.addIxRp (x : Idx) (p : IndexPair) : Length.Statement (.addIxRp x p) :=
  fun _ => ⟨Nat.le_of_ble_eq_true rfl, Nat.le_of_ble_eq_true rfl, rfl⟩
theorem Length.ldIxNn (x : Idx) (nn : Word) : Length.Statement (.ldIxNn x nn) :=
  fun _ => ⟨Nat.le_of_ble_eq_true rfl, Nat.le_of_ble_eq_true rfl, rfl⟩
theorem Length.ldAtNnIx (x : Idx) (nn : Word) : Length.Statement (.ldAtNnIx x nn) :=
  fun _ => ⟨Nat.le_of_ble_eq_true rfl, Nat.le_of_ble_eq_true rfl, rfl⟩
theorem Length.ldIxAtNn (x : Idx) (nn : Word) : Length.Statement (.ldIxAtNn x nn) :=
  fun _ => ⟨Nat.le_of_ble_eq_true rfl, Nat.le_of_ble_eq_true rfl, rfl⟩
theorem Length.incIx (x : Idx) : Length.Statement (.incIx x) :=
  fun _ => ⟨Nat.le_of_ble_eq_true rfl, Nat.le_of_ble_eq_true rfl, rfl⟩
theorem Length.decIx (x : Idx) : Length.Statement (.decIx x) :=
  fun _ => ⟨Nat.le_of_ble_eq_true rfl, Nat.le_of_ble_eq_true rfl, rfl⟩
theorem Length.incIxp (x : Idx) (w : Half) : Length.Statement (.incIxp x w) :=
  fun _ => ⟨Nat.le_of_ble_eq_true rfl, Nat.le_of_ble_eq_true rfl, rfl⟩
theorem Length.decIxp (x : Idx) (w : Half) : Length.Statement (.decIxp x w) :=
  fun _ => ⟨Nat.le_of_ble_eq_true rfl, Nat.le_of_ble_eq_true rfl, rfl⟩
theorem Length.ldIxpN (x : Idx) (w : Half) (n : Byte) : Length.Statement (.ldIxpN x w n) :=
  fun _ => ⟨Nat.le_of_ble_eq_true rfl, Nat.le_of_ble_eq_true rfl, rfl⟩
theorem Length.incAtIxd (x : Idx) (d : Byte) : Length.Statement (.incAtIxd x d) :=
  fun _ => ⟨Nat.le_of_ble_eq_true rfl, Nat.le_of_ble_eq_true rfl, rfl⟩
theorem Length.decAtIxd (x : Idx) (d : Byte) : Length.Statement (.decAtIxd x d) :=
  fun _ => ⟨Nat.le_of_ble_eq_true rfl, Nat.le_of_ble_eq_true rfl, rfl⟩
theorem Length.ldAtIxdN (x : Idx) (d : Byte) (n : Byte) : Length.Statement (.ldAtIxdN x d n) :=
  fun _ => ⟨Nat.le_of_ble_eq_true rfl, Nat.le_of_ble_eq_true rfl, rfl⟩
theorem Length.ldRAtIxd (x : Idx) (r : Reg8) (d : Byte) : Length.Statement (.ldRAtIxd x r d) :=
  fun _ => ⟨Nat.le_of_ble_eq_true rfl, Nat.le_of_ble_eq_true rfl, rfl⟩
theorem Length.ldAtIxdR (x : Idx) (r : Reg8) (d : Byte) : Length.Statement (.ldAtIxdR x r d) :=
  fun _ => ⟨Nat.le_of_ble_eq_true rfl, Nat.le_of_ble_eq_true rfl, rfl⟩
theorem Length.ldRIxp (x : Idx) (r : Reg8) (w : Half) : Length.Statement (.ldRIxp x r w) :=
  fun _ => ⟨Nat.le_of_ble_eq_true rfl, Nat.le_of_ble_eq_true rfl, rfl⟩
theorem Length.ldIxpR (x : Idx) (w : Half) (r : Reg8) : Length.Statement (.ldIxpR x w r) :=
  fun _ => ⟨Nat.le_of_ble_eq_true rfl, Nat.le_of_ble_eq_true rfl, rfl⟩
theorem Length.ldIxpIxq (x : Idx) (w : Half) (v : Half) : Length.Statement (.ldIxpIxq x w v) :=
  fun _ => ⟨Nat.le_of_ble_eq_true rfl, Nat.le_of_ble_eq_true rfl, rfl⟩
theorem Length.addAIxp (x : Idx) (w : Half) : Length.Statement (.addAIxp x w) :=
  fun _ => ⟨Nat.le_of_ble_eq_true rfl, Nat.le_of_ble_eq_true rfl, rfl⟩
theorem Length.adcAIxp (x : Idx) (w : Half) : Length.Statement (.adcAIxp x w) :=
  fun _ => ⟨Nat.le_of_ble_eq_true rfl, Nat.le_of_ble_eq_true rfl, rfl⟩
theorem Length.subIxp (x : Idx) (w : Half) : Length.Statement (.subIxp x w) :=
  fun _ => ⟨Nat.le_of_ble_eq_true rfl, Nat.le_of_ble_eq_true rfl, rfl⟩
theorem Length.sbcAIxp (x : Idx) (w : Half) : Length.Statement (.sbcAIxp x w) :=
  fun _ => ⟨Nat.le_of_ble_eq_true rfl, Nat.le_of_ble_eq_true rfl, rfl⟩
theorem Length.andIxp (x : Idx) (w : Half) : Length.Statement (.andIxp x w) :=
  fun _ => ⟨Nat.le_of_ble_eq_true rfl, Nat.le_of_ble_eq_true rfl, rfl⟩
theorem Length.xorIxp (x : Idx) (w : Half) : Length.Statement (.xorIxp x w) :=
  fun _ => ⟨Nat.le_of_ble_eq_true rfl, Nat.le_of_ble_eq_true rfl, rfl⟩
theorem Length.orIxp (x : Idx) (w : Half) : Length.Statement (.orIxp x w) :=
  fun _ => ⟨Nat.le_of_ble_eq_true rfl, Nat.le_of_ble_eq_true rfl, rfl⟩
theorem Length.cpIxp (x : Idx) (w : Half) : Length.Statement (.cpIxp x w) :=
  fun _ => ⟨Nat.le_of_ble_eq_true rfl, Nat.le_of_ble_eq_true rfl, rfl⟩
theorem Length.addAAtIxd (x : Idx) (d : Byte) : Length.Statement (.addAAtIxd x d) :=
  fun _ => ⟨Nat.le_of_ble_eq_true rfl, Nat.le_of_ble_eq_true rfl, rfl⟩
theorem Length.adcAAtIxd (x : Idx) (d : Byte) : Length.Statement (.adcAAtIxd x d) :=
  fun _ => ⟨Nat.le_of_ble_eq_true rfl, Nat.le_of_ble_eq_true rfl, rfl⟩
theorem Length.subAtIxd (x : Idx) (d : Byte) : Length.Statement (.subAtIxd x d) :=
  fun _ => ⟨Nat.le_of_ble_eq_true rfl, Nat.le_of_ble_eq_true rfl, rfl⟩
theorem Length.sbcAAtIxd (x : Idx) (d : Byte) : Length.Statement (.sbcAAtIxd x d) :=
  fun _ => ⟨Nat.le_of_ble_eq_true rfl, Nat.le_of_ble_eq_true rfl, rfl⟩
theorem Length.andAtIxd (x : Idx) (d : Byte) : Length.Statement (.andAtIxd x d) :=
  fun _ => ⟨Nat.le_of_ble_eq_true rfl, Nat.le_of_ble_eq_true rfl, rfl⟩
theorem Length.xorAtIxd (x : Idx) (d : Byte) : Length.Statement (.xorAtIxd x d) :=
  fun _ => ⟨Nat.le_of_ble_eq_true rfl, Nat.le_of_ble_eq_true rfl, rfl⟩
theorem Length.orAtIxd (x : Idx) (d : Byte) : Length.Statement (.orAtIxd x d) :=
  fun _ => ⟨Nat.le_of_ble_eq_true rfl, Nat.le_of_ble_eq_true rfl, rfl⟩
theorem Length.cpAtIxd (x : Idx) (d : Byte) : Length.Statement (.cpAtIxd x d) :=
  fun _ => ⟨Nat.le_of_ble_eq_true rfl, Nat.le_of_ble_eq_true rfl, rfl⟩
theorem Length.popIx (x : Idx) : Length.Statement (.popIx x) :=
  fun _ => ⟨Nat.le_of_ble_eq_true rfl, Nat.le_of_ble_eq_true rfl, rfl⟩
theorem Length.pushIx (x : Idx) : Length.Statement (.pushIx x) :=
  fun _ => ⟨Nat.le_of_ble_eq_true rfl, Nat.le_of_ble_eq_true rfl, rfl⟩
theorem Length.exAtSpIx (x : Idx) : Length.Statement (.exAtSpIx x) :=
  fun _ => ⟨Nat.le_of_ble_eq_true rfl, Nat.le_of_ble_eq_true rfl, rfl⟩
theorem Length.jpAtIx (x : Idx) : Length.Statement (.jpAtIx x) :=
  fun _ => ⟨Nat.le_of_ble_eq_true rfl, Nat.le_of_ble_eq_true rfl, rfl⟩
theorem Length.ldSpIx (x : Idx) : Length.Statement (.ldSpIx x) :=
  fun _ => ⟨Nat.le_of_ble_eq_true rfl, Nat.le_of_ble_eq_true rfl, rfl⟩
theorem Length.xyThenXy (x : Idx) (u : Idx) : Length.Statement (.xyThenXy x u) :=
  fun _ => ⟨Nat.le_of_ble_eq_true rfl, Nat.le_of_ble_eq_true rfl, rfl⟩
theorem Length.xyThenEd (x : Idx) : Length.Statement (.xyThenEd x) :=
  fun _ => ⟨Nat.le_of_ble_eq_true rfl, Nat.le_of_ble_eq_true rfl, rfl⟩
theorem Length.xyFallThrough (x : Idx) (inner : Instr) : Length.Statement (.xyFallThrough x inner) := by
  intro h
  have hf : inner.fallsThrough = true := by
    simp only [Instr.wellFormed, Bool.and_eq_true] at h; exact h.1
  obtain ⟨h1, h2, h3⟩ := length_of_isMain inner (Machine.isMain_of_fallsThrough inner hf)
  refine ⟨?_, ?_, ?_⟩ <;> simp only [Instr.length, encode, List.length_cons, h3, isNoOpRow] <;>
    (try simp) <;> omega

theorem Length.rlcAtIxd (x : Idx) (d : Byte) (copy : Option Reg8) : Length.Statement (.rlcAtIxd x d copy) :=
  fun _ => ⟨Nat.le_of_ble_eq_true rfl, Nat.le_of_ble_eq_true rfl, rfl⟩
theorem Length.rrcAtIxd (x : Idx) (d : Byte) (copy : Option Reg8) : Length.Statement (.rrcAtIxd x d copy) :=
  fun _ => ⟨Nat.le_of_ble_eq_true rfl, Nat.le_of_ble_eq_true rfl, rfl⟩
theorem Length.rlAtIxd (x : Idx) (d : Byte) (copy : Option Reg8) : Length.Statement (.rlAtIxd x d copy) :=
  fun _ => ⟨Nat.le_of_ble_eq_true rfl, Nat.le_of_ble_eq_true rfl, rfl⟩
theorem Length.rrAtIxd (x : Idx) (d : Byte) (copy : Option Reg8) : Length.Statement (.rrAtIxd x d copy) :=
  fun _ => ⟨Nat.le_of_ble_eq_true rfl, Nat.le_of_ble_eq_true rfl, rfl⟩
theorem Length.slaAtIxd (x : Idx) (d : Byte) (copy : Option Reg8) : Length.Statement (.slaAtIxd x d copy) :=
  fun _ => ⟨Nat.le_of_ble_eq_true rfl, Nat.le_of_ble_eq_true rfl, rfl⟩
theorem Length.sraAtIxd (x : Idx) (d : Byte) (copy : Option Reg8) : Length.Statement (.sraAtIxd x d copy) :=
  fun _ => ⟨Nat.le_of_ble_eq_true rfl, Nat.le_of_ble_eq_true rfl, rfl⟩
theorem Length.sllAtIxd (x : Idx) (d : Byte) (copy : Option Reg8) : Length.Statement (.sllAtIxd x d copy) :=
  fun _ => ⟨Nat.le_of_ble_eq_true rfl, Nat.le_of_ble_eq_true rfl, rfl⟩
theorem Length.srlAtIxd (x : Idx) (d : Byte) (copy : Option Reg8) : Length.Statement (.srlAtIxd x d copy) :=
  fun _ => ⟨Nat.le_of_ble_eq_true rfl, Nat.le_of_ble_eq_true rfl, rfl⟩
theorem Length.bitAtIxd (x : Idx) (d : Byte) (b : BitVec 3) (z : BitVec 3) : Length.Statement (.bitAtIxd x d b z) :=
  fun _ => ⟨Nat.le_of_ble_eq_true rfl, Nat.le_of_ble_eq_true rfl, rfl⟩
theorem Length.resAtIxd (x : Idx) (d : Byte) (b : BitVec 3) (copy : Option Reg8) : Length.Statement (.resAtIxd x d b copy) :=
  fun _ => ⟨Nat.le_of_ble_eq_true rfl, Nat.le_of_ble_eq_true rfl, rfl⟩
theorem Length.setAtIxd (x : Idx) (d : Byte) (b : BitVec 3) (copy : Option Reg8) : Length.Statement (.setAtIxd x d b copy) :=
  fun _ => ⟨Nat.le_of_ble_eq_true rfl, Nat.le_of_ble_eq_true rfl, rfl⟩

end Sys2Proof.Laws
end

