-- ==== Sys2Proof/Laws/Swap.lean ====
section
/-! SUPPORT. Exchanging the banks and toggling ALT (State.swapBanks) commutes with every operation: what is read is the same, and
what is written is written to the exchanged banks (R23, R24). -/

namespace Sys2Proof.Machine

/-! ## Reads -/

@[simp] theorem State.view_swapBanks (s : State) : s.swapBanks.view = s.view := by
  cases h : s.alt <;> simp [State.swapBanks, State.view, h]

@[simp] theorem State.other_swapBanks (s : State) : s.swapBanks.other = s.other := by
  cases h : s.alt <;> simp [State.swapBanks, State.other, h]

@[simp] theorem State.getIdx_swapBanks (s : State) (x : Idx) : s.swapBanks.getIdx x = s.getIdx x := by cases x <;> rfl

@[simp] theorem State.pc_swapBanks (s : State) : s.swapBanks.pc = s.pc := rfl
@[simp] theorem State.sp_swapBanks (s : State) : s.swapBanks.sp = s.sp := rfl
@[simp] theorem State.i_swapBanks (s : State) : s.swapBanks.i = s.i := rfl
@[simp] theorem State.r_swapBanks (s : State) : s.swapBanks.r = s.r := rfl
@[simp] theorem State.iff1_swapBanks (s : State) : s.swapBanks.iff1 = s.iff1 := rfl
@[simp] theorem State.iff2_swapBanks (s : State) : s.swapBanks.iff2 = s.iff2 := rfl
@[simp] theorem State.im_swapBanks (s : State) : s.swapBanks.im = s.im := rfl
@[simp] theorem State.halted_swapBanks (s : State) : s.swapBanks.halted = s.halted := rfl
@[simp] theorem State.mem_swapBanks (s : State) : s.swapBanks.mem = s.mem := rfl
@[simp] theorem State.params_swapBanks (s : State) : s.swapBanks.params = s.params := rfl
@[simp] theorem State.draws_swapBanks (s : State) : s.swapBanks.draws = s.draws := rfl
@[simp] theorem State.events_swapBanks (s : State) : s.swapBanks.events = s.events := rfl
@[simp] theorem State.drawnBit_swapBanks (s : State) : s.swapBanks.drawnBit = s.drawnBit := rfl
@[simp] theorem State.top16_swapBanks (s : State) : s.swapBanks.top16 = s.top16 := rfl
@[simp] theorem State.cell_swapBanks (s : State) (a : Word) : s.swapBanks.cell a = s.cell a := rfl
@[simp] theorem State.read_swapBanks (s : State) (a : Word) : s.swapBanks.read a = s.read a := rfl
@[simp] theorem State.read16_swapBanks (s : State) (a : Word) : s.swapBanks.read16 a = s.read16 a := rfl
@[simp] theorem State.portByte_swapBanks (s : State) (p : Word) : s.swapBanks.portByte p = s.portByte p := rfl
@[simp] theorem State.relTarget_swapBanks (s : State) (e : Byte) : s.swapBanks.relTarget e = s.relTarget e := rfl
@[simp] theorem State.fetch_swapBanks (s : State) : s.swapBanks.fetch = s.fetch := rfl
@[simp] theorem State.getReg_swapBanks (s : State) (r : Reg8) : s.swapBanks.getReg r = s.getReg r := by
  simp [State.getReg]
@[simp] theorem State.getF_swapBanks (s : State) : s.swapBanks.getF = s.getF := by
  simp [State.getF]
@[simp] theorem State.flag_swapBanks (s : State) (g : Flag) : s.swapBanks.flag g = s.flag g := by
  simp [State.flag]
@[simp] theorem State.bc_swapBanks (s : State) : s.swapBanks.bc = s.bc := by
  simp [State.bc]
@[simp] theorem State.de_swapBanks (s : State) : s.swapBanks.de = s.de := by
  simp [State.de]
@[simp] theorem State.hl_swapBanks (s : State) : s.swapBanks.hl = s.hl := by
  simp [State.hl]
@[simp] theorem State.af_swapBanks (s : State) : s.swapBanks.af = s.af := by
  simp [State.af]
@[simp] theorem State.getHalf_swapBanks (s : State) (x : Idx) (w : Half) : s.swapBanks.getHalf x w = s.getHalf x w := by
  cases w <;> simp [State.getHalf]
@[simp] theorem State.getLoc_swapBanks (s : State) (z : Loc8) : s.swapBanks.getLoc z = s.getLoc z := by
  cases z <;> simp [State.getLoc]
@[simp] theorem State.getPair_swapBanks (s : State) (p : Pair) : s.swapBanks.getPair p = s.getPair p := by
  cases p <;> simp [State.getPair]
@[simp] theorem State.getStackPair_swapBanks (s : State) (p : StackPair) : s.swapBanks.getStackPair p = s.getStackPair p := by
  cases p <;> simp [State.getStackPair]
@[simp] theorem State.getIndexPair_swapBanks (s : State) (x : Idx) (p : IndexPair) : s.swapBanks.getIndexPair x p = s.getIndexPair x p := by
  cases p <;> simp [State.getIndexPair]
@[simp] theorem State.cond_swapBanks (s : State) (cc : Cond) : s.swapBanks.cond cc = s.cond cc := by
  cases cc <;> simp [State.cond]
@[simp] theorem State.idxAddr_swapBanks (s : State) (x : Idx) (d : Byte) : s.swapBanks.idxAddr x d = s.idxAddr x d := by
  simp [State.idxAddr]

/-! ## Base updates -/

@[simp] theorem State.swapBanks_setView (s : State) (k : Bank) : s.swapBanks.setView k = (s.setView k).swapBanks := by
  cases h : s.alt <;> simp [State.swapBanks, State.setView, h]

@[simp] theorem State.swapBanks_setOther (s : State) (k : Bank) : s.swapBanks.setOther k = (s.setOther k).swapBanks := by
  cases h : s.alt <;> simp [State.swapBanks, State.setOther, h]

@[simp] theorem State.swapBanks_setSp (s : State) (v : Word) : s.swapBanks.setSp v = (s.setSp v).swapBanks := rfl
@[simp] theorem State.swapBanks_jump (s : State) (v : Word) : s.swapBanks.jump v = (s.jump v).swapBanks := rfl
@[simp] theorem State.swapBanks_setI (s : State) (v : Byte) : s.swapBanks.setI v = (s.setI v).swapBanks := rfl
@[simp] theorem State.swapBanks_setRefresh (s : State) (v : Byte) : s.swapBanks.setRefresh v = (s.setRefresh v).swapBanks := rfl
@[simp] theorem State.swapBanks_setIff1 (s : State) (v : Bool) : s.swapBanks.setIff1 v = (s.setIff1 v).swapBanks := rfl
@[simp] theorem State.swapBanks_setIff2 (s : State) (v : Bool) : s.swapBanks.setIff2 v = (s.setIff2 v).swapBanks := rfl
@[simp] theorem State.swapBanks_setIm (s : State) (v : IntMode) : s.swapBanks.setIm v = (s.setIm v).swapBanks := rfl
@[simp] theorem State.swapBanks_setHalted (s : State) (v : Bool) : s.swapBanks.setHalted v = (s.setHalted v).swapBanks := rfl
@[simp] theorem State.swapBanks_drew (s : State) : s.swapBanks.drew = (s.drew).swapBanks := rfl
@[simp] theorem State.swapBanks_record (s : State) (e : IoEvent) : s.swapBanks.record e = (s.record e).swapBanks := rfl
@[simp] theorem State.swapBanks_write (s : State) (a : Word) (v : Byte) : s.swapBanks.write a v = (s.write a v).swapBanks := rfl
@[simp] theorem State.swapBanks_setIdx (s : State) (x : Idx) (v : Word) :
    s.swapBanks.setIdx x v = (s.setIdx x v).swapBanks := by
  cases x <;> rfl

/-! ## Shared operations -/

@[simp] theorem State.swapBanks_setReg (s : State) (r : Reg8) (v : Byte) : s.swapBanks.setReg r v = (s.setReg r v).swapBanks := by
  simp [State.setReg]
@[simp] theorem State.swapBanks_setF (s : State) (v : Byte) : s.swapBanks.setF v = (s.setF v).swapBanks := by
  simp [State.setF]
@[simp] theorem State.swapBanks_setBc (s : State) (v : Word) : s.swapBanks.setBc v = (s.setBc v).swapBanks := by
  simp [State.setBc]
@[simp] theorem State.swapBanks_setDe (s : State) (v : Word) : s.swapBanks.setDe v = (s.setDe v).swapBanks := by
  simp [State.setDe]
@[simp] theorem State.swapBanks_setHl (s : State) (v : Word) : s.swapBanks.setHl v = (s.setHl v).swapBanks := by
  simp [State.setHl]
@[simp] theorem State.swapBanks_setAf (s : State) (v : Word) : s.swapBanks.setAf v = (s.setAf v).swapBanks := by
  simp [State.setAf]
@[simp] theorem State.swapBanks_assign (s : State) (fl : FlagSet) : s.swapBanks.assign fl = (s.assign fl).swapBanks := by
  simp [State.assign]
@[simp] theorem State.swapBanks_setA (s : State) (v : Byte) : s.swapBanks.setA v = (s.setA v).swapBanks := by
  simp [State.setA]
@[simp] theorem State.swapBanks_setHalf (s : State) (x : Idx) (w : Half) (v : Byte) : s.swapBanks.setHalf x w v = (s.setHalf x w v).swapBanks := by
  cases w <;> simp [State.setHalf]
@[simp] theorem State.swapBanks_setLoc (s : State) (z : Loc8) (v : Byte) : s.swapBanks.setLoc z v = (s.setLoc z v).swapBanks := by
  cases z <;> simp [State.setLoc]
@[simp] theorem State.swapBanks_setPair (s : State) (p : Pair) (v : Word) : s.swapBanks.setPair p v = (s.setPair p v).swapBanks := by
  cases p <;> simp [State.setPair]
@[simp] theorem State.swapBanks_setStackPair (s : State) (p : StackPair) (v : Word) : s.swapBanks.setStackPair p v = (s.setStackPair p v).swapBanks := by
  cases p <;> simp [State.setStackPair]
@[simp] theorem State.swapBanks_copyTo (s : State) (c : Option Reg8) (v : Byte) : s.swapBanks.copyTo c v = (s.copyTo c v).swapBanks := by
  cases c <;> simp [State.copyTo]
@[simp] theorem State.swapBanks_advance (s : State) (n : Word) : s.swapBanks.advance n = (s.advance n).swapBanks := by
  simp [State.advance]
@[simp] theorem State.swapBanks_bumpR (s : State) (k : Nat) : s.swapBanks.bumpR k = (s.bumpR k).swapBanks := by
  simp [State.bumpR]
@[simp] theorem State.swapBanks_write16 (s : State) (a v : Word) : s.swapBanks.write16 a v = (s.write16 a v).swapBanks := by
  simp [State.write16]
@[simp] theorem State.swapBanks_push16 (s : State) (v : Word) : s.swapBanks.push16 v = (s.push16 v).swapBanks := by
  simp [State.push16]
@[simp] theorem State.swapBanks_dropTop (s : State) : s.swapBanks.dropTop = (s.dropTop).swapBanks := by
  simp [State.dropTop]
@[simp] theorem State.swapBanks_callTo (s : State) (ret target : Word) : s.swapBanks.callTo ret target = (s.callTo ret target).swapBanks := by
  simp [State.callTo]
@[simp] theorem State.swapBanks_returnPop (s : State) : s.swapBanks.returnPop = (s.returnPop).swapBanks := by
  simp [State.returnPop]
@[simp] theorem State.swapBanks_returnFromInterrupt (s : State) : s.swapBanks.returnFromInterrupt = (s.returnFromInterrupt).swapBanks := by
  simp [State.returnFromInterrupt]
@[simp] theorem State.swapBanks_portRead (s : State) (p : Word) : s.swapBanks.portRead p = (s.portRead p).swapBanks := by
  simp [State.portRead]
@[simp] theorem State.swapBanks_portWrite (s : State) (p : Word) (v : Byte) : s.swapBanks.portWrite p v = (s.portWrite p v).swapBanks := by
  simp [State.portWrite]
@[simp] theorem State.swapBanks_toA (s : State) (p : Byte × FlagSet) : s.swapBanks.toA p = (s.toA p).swapBanks := by
  simp [State.toA]
@[simp] theorem State.swapBanks_toHl (s : State) (p : Word × FlagSet) : s.swapBanks.toHl p = (s.toHl p).swapBanks := by
  simp [State.toHl]
@[simp] theorem State.swapBanks_addA (s : State) (v : Byte) : s.swapBanks.addA v = (s.addA v).swapBanks := by
  simp [State.addA]
@[simp] theorem State.swapBanks_adcA (s : State) (v : Byte) : s.swapBanks.adcA v = (s.adcA v).swapBanks := by
  simp [State.adcA]
@[simp] theorem State.swapBanks_subA (s : State) (v : Byte) : s.swapBanks.subA v = (s.subA v).swapBanks := by
  simp [State.subA]
@[simp] theorem State.swapBanks_sbcA (s : State) (v : Byte) : s.swapBanks.sbcA v = (s.sbcA v).swapBanks := by
  simp [State.sbcA]
@[simp] theorem State.swapBanks_andA (s : State) (v : Byte) : s.swapBanks.andA v = (s.andA v).swapBanks := by
  simp [State.andA]
@[simp] theorem State.swapBanks_xorA (s : State) (v : Byte) : s.swapBanks.xorA v = (s.xorA v).swapBanks := by
  simp [State.xorA]
@[simp] theorem State.swapBanks_orA (s : State) (v : Byte) : s.swapBanks.orA v = (s.orA v).swapBanks := by
  simp [State.orA]
@[simp] theorem State.swapBanks_cpA (s : State) (v : Byte) : s.swapBanks.cpA v = (s.cpA v).swapBanks := by
  simp [State.cpA]
@[simp] theorem State.swapBanks_drawFlag (s : State) (g : Flag) : s.swapBanks.drawFlag g = (s.drawFlag g).swapBanks := by
  simp [State.drawFlag]
@[simp] theorem State.swapBanks_drawYX (s : State) : s.swapBanks.drawYX = (s.drawYX).swapBanks := by
  simp [State.drawYX]
@[simp] theorem State.swapBanks_drawHPvYX (s : State) : s.swapBanks.drawHPvYX = (s.drawHPvYX).swapBanks := by
  simp [State.drawHPvYX]
@[simp] theorem State.swapBanks_modifyLoc (s : State) (z : Loc8) (f : Byte → Byte × FlagSet) : s.swapBanks.modifyLoc z f = (s.modifyLoc z f).swapBanks := by
  simp [State.modifyLoc]
@[simp] theorem State.swapBanks_modifyAt (s : State) (a : Word) (f : Byte → Byte × FlagSet) : s.swapBanks.modifyAt a f = (s.modifyAt a f).swapBanks := by
  simp [State.modifyAt]
@[simp] theorem State.swapBanks_modifyHalf (s : State) (x : Idx) (w : Half) (f : Byte → Byte × FlagSet) : s.swapBanks.modifyHalf x w f = (s.modifyHalf x w f).swapBanks := by
  simp [State.modifyHalf]
@[simp] theorem State.swapBanks_rotA (s : State) (f : RotFn) : s.swapBanks.rotA f = (s.rotA f).swapBanks := by
  simp [State.rotA]
@[simp] theorem State.swapBanks_rotLoc (s : State) (f : RotFn) (z : Loc8) : s.swapBanks.rotLoc f z = (s.rotLoc f z).swapBanks := by
  simp [State.rotLoc]
@[simp] theorem State.swapBanks_rotAt (s : State) (f : RotFn) (a : Word) (c : Option Reg8) : s.swapBanks.rotAt f a c = (s.rotAt f a c).swapBanks := by
  simp [State.rotAt]
@[simp] theorem State.swapBanks_storeCopy (s : State) (a : Word) (v : Byte) (c : Option Reg8) : s.swapBanks.storeCopy a v c = (s.storeCopy a v c).swapBanks := by
  simp [State.storeCopy]
@[simp] theorem ite_swapBanks (c : Prop) [Decidable c] (s t : State) :
    (if c then s.swapBanks else t.swapBanks) = (if c then s else t).swapBanks := by
  split <;> rfl
@[simp] theorem State.swapBanks_ldIteration (s : State) (d : Dir) : s.swapBanks.ldIteration d = (s.ldIteration d).swapBanks := by
  simp [State.ldIteration]
@[simp] theorem State.swapBanks_cpIteration (s : State) (d : Dir) : s.swapBanks.cpIteration d = (s.cpIteration d).swapBanks := by
  simp [State.cpIteration]
@[simp] theorem State.swapBanks_inIteration (s : State) (d : Dir) : s.swapBanks.inIteration d = (s.inIteration d).swapBanks := by
  simp [State.inIteration]
@[simp] theorem State.swapBanks_outIteration (s : State) (d : Dir) : s.swapBanks.outIteration d = (s.outIteration d).swapBanks := by
  simp [State.outIteration]
@[simp] theorem State.swapBanks_repeatLd (s : State) : s.swapBanks.repeatLd = (s.repeatLd).swapBanks := by
  simp [State.repeatLd]
@[simp] theorem State.swapBanks_repeatCp (s : State) : s.swapBanks.repeatCp = (s.repeatCp).swapBanks := by
  simp [State.repeatCp]
@[simp] theorem State.swapBanks_repeatIo (s : State) : s.swapBanks.repeatIo = (s.repeatIo).swapBanks := by
  simp [State.repeatIo]

end Sys2Proof.Machine
end

