-- ==== Sys2Proof/Machine/Run.lean ====
section
/-! DEFINITION. A run under the host's step budget (R415): it ends when HALTED or when the budget is spent. -/

namespace Sys2Proof.Machine

def runUntilHalted : Nat → State → Result
  | 0, s => .next s
  | k + 1, s =>
    if s.halted then .next s
    else
      match step s with
      | .next t => runUntilHalted k t
      | .fault r => .fault r
      | .refused r => .refused r

end Sys2Proof.Machine
end

