-- ==== Sys2Proof/Tests/Slice0.lean ====
section
/-! SUPPORT. Tests: which terms are instructions, decoding of words written out from the encodings of the rules, the spec's test
vectors (95_test_vectors.md, at most two for an instruction, each one step), the host's table words, and for each
statement with hypotheses a state and operands that meet them. Expected values come from the spec. -/

namespace Sys2Proof.Tests

set_option Elab.async false

open Sys2Proof Sys2Proof.Machine

/-! ## Helpers -/

/-- The state at reset with the primary AF, BC, DE and HL set. -/
def regs (af bc de hl : Word) : State :=
  (((State.reset.setAf af).setBc bc).setDe de).setHl hl

/-- The bytes stored at pc, and PC there. -/
def placed (pc : Word) (bytes : List Byte) (s : State) : State := (s.writeBytes pc bytes).jump pc

/-- One step from s answers a next state of which p holds. -/
def after (s : State) (p : State → Bool) : Bool :=
  match step s with
  | .next t => p t
  | _ => false

theorem after_next {s : State} {p : State → Bool} (h : after s p = true) : ∃ t, step s = .next t := by
  unfold after at h
  split at h
  · exact ⟨_, ‹_›⟩
  · cases h

/-- Each list of bytes decodes to its instruction, all bytes used. -/
def decodeTo (rows : List (List Byte × Instr)) : Bool :=
  rows.all fun row =>
    match decode row.1 with
    | .ok (i, rest) => i == row.2 && rest.isEmpty
    | .error _ => false

/-- The encoder gives each instruction its bytes. -/
def encodeTo (rows : List (List Byte × Instr)) : Bool := rows.all fun row => encode row.2 == row.1

/-- The port of the one input event of a run from reset. -/
def inputPort (t : State) : Option Word :=
  match t.events with
  | [.input p _] => some p
  | _ => none

/-! ## Well-formedness -/

/-- JR has no condition PO (R177). -/
theorem test_wf_jr_condition : (Instr.jrCc .po 5).wellFormed = false ∧ (Instr.jrCc .nc 5).wellFormed = true := by
  decide +kernel

/-- RETN with y = 1 is RETI's encoding (R280). -/
theorem test_wf_retn_selector : (Instr.retn 1).wellFormed = false ∧ (Instr.retn 7).wellFormed = true := by
  decide +kernel

/-- LD r,IXp has no H: the prefix makes H a half of IX (R335). -/
theorem test_wf_load_from_half :
    (Instr.ldRIxp .ix .h .low).wellFormed = false ∧ (Instr.ldRIxp .ix .d .low).wellFormed = true := by
  decide +kernel

/-- LD IXp,r has no L (R336). -/
theorem test_wf_load_to_half :
    (Instr.ldIxpR .iy .high .l).wellFormed = false ∧ (Instr.ldIxpR .iy .high .a).wellFormed = true := by
  decide +kernel

/-- ADD HL,BC has an indexed meaning and a prefixed instruction is no unprefixed one, so neither is fallen through to;
JR PO is ill formed behind a prefix too (R98, R359). -/
theorem test_wf_fall_through :
    (Instr.xyFallThrough .ix (.addHlRp .bc)).wellFormed = false ∧
      (Instr.xyFallThrough .ix (.incIx .ix)).wellFormed = false ∧
      (Instr.xyFallThrough .iy (.jrCc .po 0)).wellFormed = false ∧
      (Instr.xyFallThrough .ix (.incR .atHL)).wellFormed = false ∧
      (Instr.xyFallThrough .ix (.incR (.reg .a))).wellFormed = true ∧
      (Instr.xyFallThrough .iy .halt).wellFormed = true := by
  decide +kernel

/-! ## Decoding and encoding of words written out from the rules -/

/-- Class 00 (R151 to R177): fields 00 y z, the immediates low byte first. -/
def wordsClass00 : List (List Byte × Instr) :=
   [([0x00], .nop), ([0x01, 0x34, 0x12], .ldRpNn .bc 0x1234), ([0x31, 0xFE, 0xFF], .ldRpNn .sp 0xFFFE),
    ([0x08], .exAfAf), ([0x29], .addHlRp .hl), ([0x02], .ldAtBcA), ([0x12], .ldAtDeA), ([0x0A], .ldAAtBc),
    ([0x1A], .ldAAtDe), ([0x22, 0x00, 0x40], .ldAtNnHl 0x4000), ([0x2A, 0xFF, 0xFF], .ldHlAtNn 0xFFFF),
    ([0x32, 0x00, 0x20], .ldAtNnA 0x2000), ([0x3A, 0x34, 0x12], .ldAAtNn 0x1234), ([0x33], .incRp .sp),
    ([0x1B], .decRp .de), ([0x34], .incR .atHL), ([0x3C], .incR (.reg .a)), ([0x3D], .decR (.reg .a)),
    ([0x0D], .decR (.reg .c)), ([0x36, 0x5A], .ldRN .atHL 0x5A), ([0x26, 0x01], .ldRN (.reg .h) 1),
    ([0x07], .rlca), ([0x0F], .rrca), ([0x17], .rla), ([0x1F], .rra), ([0x27], .daa), ([0x2F], .cpl),
    ([0x37], .scf), ([0x3F], .ccf), ([0x10, 0xFE], .djnz 0xFE), ([0x18, 0x80], .jr 0x80),
    ([0x20, 0x01], .jrCc .nz 1), ([0x28, 0x02], .jrCc .z 2), ([0x30, 0x03], .jrCc .nc 3),
    ([0x38, 0x04], .jrCc .c 4)]

theorem test_decode_class00 : decodeTo wordsClass00 = true := by decide +kernel

theorem test_encode_class00 : encodeTo wordsClass00 = true := by decide +kernel

/-- Class 01 (R191 to R194): fields 01 ddd sss, 76 being HALT. -/
def wordsClass01 : List (List Byte × Instr) :=
   [([0x76], .halt), ([0x78], .ldRR .a .b), ([0x41], .ldRR .b .c), ([0x6E], .ldRAtHl .l), ([0x46], .ldRAtHl .b),
    ([0x72], .ldAtHlR .d), ([0x77], .ldAtHlR .a)]

theorem test_decode_class01 : decodeTo wordsClass01 = true := by decide +kernel

theorem test_encode_class01 : encodeTo wordsClass01 = true := by decide +kernel

/-- Class 10 (R196 to R203): fields 10 op zzz. -/
def wordsClass10 : List (List Byte × Instr) :=
   [([0x80], .addAR (.reg .b)), ([0x8E], .adcAR .atHL), ([0x91], .subR (.reg .c)), ([0x9A], .sbcAR (.reg .d)),
    ([0xA3], .andR (.reg .e)), ([0xAC], .xorR (.reg .h)), ([0xB5], .orR (.reg .l)), ([0xBF], .cpR (.reg .a))]

theorem test_decode_class10 : decodeTo wordsClass10 = true := by decide +kernel

theorem test_encode_class10 : encodeTo wordsClass10 = true := by decide +kernel

/-- Class 11 (R211 to R236). -/
def wordsClass11 : List (List Byte × Instr) :=
   [([0xC0], .retCc .nz), ([0xF8], .retCc .m), ([0xF1], .popRp2 .af), ([0xC1], .popRp2 .bc), ([0xC9], .ret),
    ([0xD9], .exx), ([0xE9], .jpAtHl), ([0xF9], .ldSpHl), ([0xEA, 0xCD, 0xAB], .jpCcNn .pe 0xABCD),
    ([0xC3, 0x00, 0x20], .jpNn 0x2000), ([0xD3, 0x34], .outAtNA 0x34), ([0xDB, 0x34], .inAAtN 0x34),
    ([0xE3], .exAtSpHl), ([0xEB], .exDeHl), ([0xF3], .di), ([0xFB], .ei),
    ([0xE4, 0x34, 0x12], .callCcNn .po 0x1234), ([0xE5], .pushRp2 .hl), ([0xCD, 0x00, 0x30], .callNn 0x3000),
    ([0xC6, 0x01], .addAN 1), ([0xCE, 0x02], .adcAN 2), ([0xD6, 0x03], .subN 3), ([0xDE, 0x04], .sbcAN 4),
    ([0xE6, 0x05], .andN 5), ([0xEE, 0x06], .xorN 6), ([0xF6, 0x07], .orN 7), ([0xFE, 0x20], .cpN 0x20),
    ([0xFF], .rst 7), ([0xC7], .rst 0)]

theorem test_decode_class11 : decodeTo wordsClass11 = true := by decide +kernel

theorem test_encode_class11 : encodeTo wordsClass11 = true := by decide +kernel

/-- The CB table (R251 to R262): CB, then fields rot y, 01 bit, 10 bit, 11 bit and the operand. -/
def wordsCb : List (List Byte × Instr) :=
   [([0xCB, 0x00], .rlcR (.reg .b)), ([0xCB, 0x09], .rrcR (.reg .c)), ([0xCB, 0x12], .rlR (.reg .d)),
    ([0xCB, 0x1B], .rrR (.reg .e)), ([0xCB, 0x24], .slaR (.reg .h)), ([0xCB, 0x2D], .sraR (.reg .l)),
    ([0xCB, 0x36], .sllR .atHL), ([0xCB, 0x3F], .srlR (.reg .a)), ([0xCB, 0x7F], .bitR 7 .a),
    ([0xCB, 0x5E], .bitAtHl 3), ([0xCB, 0x81], .resR 0 (.reg .c)), ([0xCB, 0xBE], .resR 7 .atHL),
    ([0xCB, 0xE7], .setR 4 (.reg .a))]

theorem test_decode_cb : decodeTo wordsCb = true := by decide +kernel

theorem test_encode_cb : encodeTo wordsCb = true := by decide +kernel

/-- The ED table (R271 to R309), the block instructions apart. -/
def wordsEd : List (List Byte × Instr) :=
   [([0xED, 0x78], .inRAtC .a), ([0xED, 0x70], .inAtC), ([0xED, 0x41], .outAtCR .b), ([0xED, 0x71], .outAtC0),
    ([0xED, 0x52], .sbcHlRp .de), ([0xED, 0x7A], .adcHlRp .sp),
    ([0xED, 0x43, 0x10, 0x40], .ldAtNnRp .bc 0x4010), ([0xED, 0x7B, 0x00, 0x40], .ldRpAtNn .sp 0x4000),
    ([0xED, 0x44], .neg 0), ([0xED, 0x4C], .neg 1), ([0xED, 0x45], .retn 0), ([0xED, 0x7D], .retn 7),
    ([0xED, 0x4D], .reti), ([0xED, 0x46], .im0 0), ([0xED, 0x66], .im0 1), ([0xED, 0x4E], .im0Star 0),
    ([0xED, 0x6E], .im0Star 1), ([0xED, 0x56], .im1 0), ([0xED, 0x76], .im1 1), ([0xED, 0x5E], .im2 0),
    ([0xED, 0x7E], .im2 1), ([0xED, 0x47], .ldIA), ([0xED, 0x4F], .ldRefreshA), ([0xED, 0x57], .ldAI),
    ([0xED, 0x5F], .ldARefresh), ([0xED, 0x67], .rrd), ([0xED, 0x6F], .rld), ([0xED, 0x00], .nopEd00 0),
    ([0xED, 0x3F], .nopEd00 0x3F), ([0xED, 0x77], .nopEd77 0), ([0xED, 0x7F], .nopEd77 1),
    ([0xED, 0x80], .nopEd80 0), ([0xED, 0x9F], .nopEd80 0x1F), ([0xED, 0xA4], .nopEdA4 0 0),
    ([0xED, 0xBF], .nopEdA4 3 3), ([0xED, 0xC0], .nopEdC0 0), ([0xED, 0xFF], .nopEdC0 0x3F)]

theorem test_decode_ed : decodeTo wordsEd = true := by decide +kernel

theorem test_encode_ed : encodeTo wordsEd = true := by decide +kernel

/-- The block instructions (R293 to R308): ED, then 101 y z. -/
def wordsBlock : List (List Byte × Instr) :=
   [([0xED, 0xA0], .ldi), ([0xED, 0xA1], .cpi), ([0xED, 0xA2], .ini), ([0xED, 0xA3], .outi),
    ([0xED, 0xA8], .ldd), ([0xED, 0xA9], .cpd), ([0xED, 0xAA], .ind), ([0xED, 0xAB], .outd),
    ([0xED, 0xB0], .ldir), ([0xED, 0xB1], .cpir), ([0xED, 0xB2], .inir), ([0xED, 0xB3], .otir),
    ([0xED, 0xB8], .lddr), ([0xED, 0xB9], .cpdr), ([0xED, 0xBA], .indr), ([0xED, 0xBB], .otdr)]

theorem test_decode_block : decodeTo wordsBlock = true := by decide +kernel

theorem test_encode_block : encodeTo wordsBlock = true := by decide +kernel

/-- The DD and FD table (R321 to R358). -/
def wordsIndex : List (List Byte × Instr) :=
   [([0xDD, 0x29], .addIxRp .ix .self), ([0xFD, 0x39], .addIxRp .iy .sp),
    ([0xDD, 0x21, 0x34, 0x12], .ldIxNn .ix 0x1234), ([0xFD, 0x22, 0x00, 0x40], .ldAtNnIx .iy 0x4000),
    ([0xDD, 0x2A, 0x00, 0x40], .ldIxAtNn .ix 0x4000), ([0xDD, 0x23], .incIx .ix), ([0xFD, 0x2B], .decIx .iy),
    ([0xFD, 0x24], .incIxp .iy .high), ([0xDD, 0x2D], .decIxp .ix .low),
    ([0xDD, 0x26, 0xAB], .ldIxpN .ix .high 0xAB), ([0xDD, 0x34, 0x10], .incAtIxd .ix 0x10),
    ([0xFD, 0x35, 0x80], .decAtIxd .iy 0x80), ([0xDD, 0x36, 0xFF, 0x99], .ldAtIxdN .ix 0xFF 0x99),
    ([0xDD, 0x66, 0x02], .ldRAtIxd .ix .h 2), ([0xFD, 0x75, 0x7F], .ldAtIxdR .iy .l 0x7F),
    ([0xDD, 0x45], .ldRIxp .ix .b .low), ([0xFD, 0x6F], .ldIxpR .iy .low .a),
    ([0xDD, 0x65], .ldIxpIxq .ix .high .low), ([0xFD, 0x84], .addAIxp .iy .high),
    ([0xDD, 0x8D], .adcAIxp .ix .low), ([0xDD, 0x94], .subIxp .ix .high), ([0xFD, 0x9D], .sbcAIxp .iy .low),
    ([0xDD, 0xA4], .andIxp .ix .high), ([0xDD, 0xAD], .xorIxp .ix .low), ([0xFD, 0xB4], .orIxp .iy .high),
    ([0xDD, 0xBD], .cpIxp .ix .low), ([0xDD, 0x86, 0x05], .addAAtIxd .ix 5),
    ([0xDD, 0x8E, 0x05], .adcAAtIxd .ix 5), ([0xFD, 0x96, 0x05], .subAtIxd .iy 5),
    ([0xDD, 0x9E, 0x05], .sbcAAtIxd .ix 5), ([0xDD, 0xA6, 0x05], .andAtIxd .ix 5),
    ([0xDD, 0xAE, 0x05], .xorAtIxd .ix 5), ([0xDD, 0xB6, 0x05], .orAtIxd .ix 5),
    ([0xFD, 0xBE, 0xFE], .cpAtIxd .iy 0xFE), ([0xDD, 0xE1], .popIx .ix), ([0xFD, 0xE5], .pushIx .iy),
    ([0xDD, 0xE3], .exAtSpIx .ix), ([0xFD, 0xE9], .jpAtIx .iy), ([0xDD, 0xF9], .ldSpIx .ix)]

theorem test_decode_index : decodeTo wordsIndex = true := by decide +kernel

theorem test_encode_index : encodeTo wordsIndex = true := by decide +kernel

/-- The DDCB and FDCB table (R381 to R391): the displacement is the third byte, the operation byte the fourth. -/
def wordsXcb : List (List Byte × Instr) :=
   [([0xDD, 0xCB, 0x01, 0x06], .rlcAtIxd .ix 1 none), ([0xDD, 0xCB, 0x01, 0x00], .rlcAtIxd .ix 1 (some .b)),
    ([0xDD, 0xCB, 0x02, 0x0E], .rrcAtIxd .ix 2 none), ([0xFD, 0xCB, 0x03, 0x16], .rlAtIxd .iy 3 none),
    ([0xDD, 0xCB, 0x04, 0x1F], .rrAtIxd .ix 4 (some .a)), ([0xDD, 0xCB, 0x00, 0x26], .slaAtIxd .ix 0 none),
    ([0xDD, 0xCB, 0x00, 0x2E], .sraAtIxd .ix 0 none), ([0xDD, 0xCB, 0x00, 0x35], .sllAtIxd .ix 0 (some .l)),
    ([0xFD, 0xCB, 0xFF, 0x3C], .srlAtIxd .iy 0xFF (some .h)), ([0xDD, 0xCB, 0x00, 0x46], .bitAtIxd .ix 0 0 6),
    ([0xFD, 0xCB, 0x00, 0x78], .bitAtIxd .iy 0 7 0), ([0xDD, 0xCB, 0x02, 0x87], .resAtIxd .ix 2 0 (some .a)),
    ([0xFD, 0xCB, 0x80, 0xFE], .setAtIxd .iy 0x80 7 none)]

theorem test_decode_xcb : decodeTo wordsXcb = true := by decide +kernel

theorem test_encode_xcb : encodeTo wordsXcb = true := by decide +kernel

/-- What a prefix falls through to (R359). -/
def wordsFallThrough : List (List Byte × Instr) :=
   [([0xDD, 0x3C], .xyFallThrough .ix (.incR (.reg .a))), ([0xFD, 0xEB], .xyFallThrough .iy .exDeHl),
    ([0xDD, 0xCD, 0x00, 0x30], .xyFallThrough .ix (.callNn 0x3000)), ([0xDD, 0x76], .xyFallThrough .ix .halt)]

theorem test_decode_fallthrough : decodeTo wordsFallThrough = true := by decide +kernel

theorem test_encode_fallthrough : encodeTo wordsFallThrough = true := by decide +kernel

/-- A prefix before another prefix is one byte long; the next byte is left to the next step (R360). -/
theorem test_decode_prefix_alone :
    decodeBytes 0xDD 0xDD 0x09 0 = .ok (.xyThenXy .ix .ix) ∧ decodeBytes 0xFD 0xED 0x44 0 = .ok (.xyThenEd .iy) ∧
      (Instr.xyThenXy .ix .ix).length = 1 ∧ (Instr.xyThenEd .iy).length = 1 := by decide +kernel

/-- A list that ends inside an instruction is refused. -/
theorem test_decode_truncated : decode [0xDD, 0xCB, 0x01] = .error .truncated := by decide +kernel

/-! ## Test vectors of the spec (95_test_vectors.md) -/

/-- V1 (R31, R150): R bit 7 kept. -/
theorem test_v1_r_bit_7_kept : after (placed 0x100 [0] { State.reset with r := 0x7F })
    (fun t => t.pc == 0x101 && t.r == 0) = true := by decide +kernel

/-- V2 (R31, R150): R bit 7 kept, low bits wrap. -/
theorem test_v2_r_bit_7_kept_low_bits : after (placed 0x100 [0] { State.reset with r := 0xFF })
    (fun t => t.pc == 0x101 && t.r == 0x80) = true := by decide +kernel

/-- V3 (R96, R251): CB prefix bumps R by 2. -/
theorem test_v3_cb_prefix_bumps_r_by_2 : after (placed 0x100 [0xCB, 0] { regs 0 0x100 0 0 with r := 0x7E })
    (fun t => t.bc == 0x200 && t.pc == 0x102 && t.r == 0) = true := by decide +kernel

/-- V4 (R96, R391): DDCB bumps R by 2. -/
theorem test_v4_ddcb_bumps_r_by_2 : after (placed 0x100 [0xDD, 0xCB, 0, 0xC6] { State.reset with ix := 0x2000 })
    (fun t => t.pc == 0x104 && t.r == 2 && t.read 0x2000 == 1) = true := by decide +kernel

/-- V5 (R81, R164): halted step changes nothing. -/
theorem test_v5_halted_step_changes_nothing : after
    (placed 0x100 [0x3C] { regs 0x100 0 0 0 with halted := true, r := 0x10 })
    (fun t => t.prim.a == 1 && t.pc == 0x100 && t.r == 0x10) = true := by decide +kernel

/-- V8 (R51, R161): MEM_SIZE = 0x1000: address 0x1005 selects cell 5. -/
theorem test_v8_mem_size_0x1000_address_0x1005_selects : after
    (placed 0x100 [0x3A, 5, 0x10]
      (State.writeBytes ({ State.reset with params := { Params.default with memSize := 0x1000 } }) 5 [0xAB]))
    (fun t => t.getReg .a == 0xAB && t.pc == 0x103) = true := by decide +kernel

/-- V9 (R54, R159): 16-bit read at 0xFFFF: both bytes come from cell 0 (default MEM_SIZE). -/
theorem test_v9_16_bit_read_at_0xffff_both : after
    (placed 0x100 [0x2A, 0xFF, 0xFF] (State.writeBytes State.reset 0 [0x12]))
    (fun t => t.hl == 0x1212 && t.pc == 0x103) = true := by decide +kernel

/-- V10 (R55, R158): 16-bit write at 0xFFFF: low byte then high byte into cell 0, high byte remains. -/
theorem test_v10_16_bit_write_at_0xffff_low : after (placed 0x100 [0x22, 0xFF, 0xFF] (regs 0 0 0 0xABCD))
    (fun t => t.pc == 0x103 && t.read 0 == 0xAB) = true := by decide +kernel

/-- V11 (R192): LD r,r'. -/
theorem test_v11_ld_r_r : after (placed 0x100 [0x7B] (regs 0 0 0x9C 0))
    (fun t => t.getReg .a == 0x9C && t.getF == 0 && t.pc == 0x101) = true := by decide +kernel

/-- V12 (R193): LD r,(HL). -/
theorem test_v12_ld_r_hl : after (placed 0x100 [0x4E] (State.writeBytes (regs 0 0 0 0x3000) 0x3000 [0x77]))
    (fun t => t.bc == 0x77 && t.pc == 0x101) = true := by decide +kernel

/-- V13 (R194): LD (HL),r: LD (HL),H stores the high byte of the address. -/
theorem test_v13_ld_hl_r_ld_hl_h : after (placed 0x100 [0x74] (regs 0 0 0 0x3000))
    (fun t => t.pc == 0x101 && t.read 0x3000 == 0x30) = true := by decide +kernel

/-- V14 (R166): LD (HL),n. -/
theorem test_v14_ld_hl_n : after (placed 0x100 [0x36, 0x5A] (regs 0 0 0 0x3000))
    (fun t => t.pc == 0x102 && t.read 0x3000 == 0x5A) = true := by decide +kernel

/-- V15 (R161): LD A,(nn). -/
theorem test_v15_ld_a_nn : after (placed 0x100 [0x3A, 0x34, 0x12] (State.writeBytes State.reset 0x1234 [0xEE]))
    (fun t => t.getReg .a == 0xEE && t.pc == 0x103) = true := by decide +kernel

/-- V16 (R158): LD (nn),HL little-endian. -/
theorem test_v16_ld_nn_hl_little_endian : after (placed 0x100 [0x22, 0, 0x40] (regs 0 0 0 0x1234))
    (fun t => t.pc == 0x103 && t.read 0x4000 == 0x34 && t.read 0x4001 == 0x12) = true := by decide +kernel

/-- V17 (R151): LD SP,nn. -/
theorem test_v17_ld_sp_nn : after (placed 0x100 [0x31, 0xFE, 0xFF] State.reset)
    (fun t => t.sp == 0xFFFE && t.pc == 0x103) = true := by decide +kernel

/-- V18 (R218): LD SP,HL. -/
theorem test_v18_ld_sp_hl : after (placed 0x100 [0xF9] (regs 0 0 0 0x8000))
    (fun t => t.sp == 0x8000 && t.pc == 0x101) = true := by decide +kernel

/-- V19 (R278): LD SP,(nn) (ED 7B). -/
theorem test_v19_ld_sp_nn_ed_7b : after
    (placed 0x100 [0xED, 0x7B, 0, 0x40] (State.writeBytes State.reset 0x4000 [0, 0x90]))
    (fun t => t.sp == 0x9000 && t.pc == 0x104) = true := by decide +kernel

/-- V20 (R277): LD (nn),BC (ED 43). -/
theorem test_v20_ld_nn_bc_ed_43 : after (placed 0x100 [0xED, 0x43, 0x10, 0x40] (regs 0 0xBEEF 0 0))
    (fun t => t.pc == 0x104 && t.read 0x4010 == 0xEF && t.read 0x4011 == 0xBE) = true := by decide +kernel

/-- V21 (R156): LD A,(BC). -/
theorem test_v21_ld_a_bc : after (placed 0x100 [0x0A] (State.writeBytes (regs 0 0x2000 0 0) 0x2000 [0x31]))
    (fun t => t.getReg .a == 0x31 && t.pc == 0x101) = true := by decide +kernel

/-- V22 (R196): ADD overflow 0x7F+0x01. -/
theorem test_v22_add_overflow_0x7f_0x01 : after (placed 0x100 [0x80] (regs 0x7F00 0x100 0 0))
    (fun t => t.getReg .a == 0x80 && t.getF == 0x94 && t.pc == 0x101) = true := by decide +kernel

/-- V23 (R196): ADD carry and zero 0xFF+0x01. -/
theorem test_v23_add_carry_and_zero_0xff_0x01 : after (placed 0x100 [0x81] (regs 0xFF00 1 0 0))
    (fun t => t.getReg .a == 0 && t.getF == 0x51 && t.pc == 0x101) = true := by decide +kernel

/-- V24 (R197): ADC with carry in 0x7F+0x00+1. -/
theorem test_v24_adc_with_carry_in_0x7f_0x00 : after (placed 0x100 [0x88] (regs 0x7F01 0 0 0))
    (fun t => t.getReg .a == 0x80 && t.getF == 0x94 && t.pc == 0x101) = true := by decide +kernel

/-- V25 (R197): ADC A,A with carry 0x80+0x80+1. -/
theorem test_v25_adc_a_a_with_carry_0x80 : after (placed 0x100 [0x8F] (regs 0x8001 0 0 0))
    (fun t => t.getReg .a == 1 && t.getF == 5 && t.pc == 0x101) = true := by decide +kernel

/-- V26 (R198): SUB overflow 0x80-0x01. -/
theorem test_v26_sub_overflow_0x80_0x01 : after (placed 0x100 [0x90] (regs 0x8000 0x100 0 0))
    (fun t => t.getReg .a == 0x7F && t.getF == 0x3E && t.pc == 0x101) = true := by decide +kernel

/-- V27 (R198): SUB borrow 0x00-0x01. -/
theorem test_v27_sub_borrow_0x00_0x01 : after (placed 0x100 [0x90] (regs 0 0x100 0 0))
    (fun t => t.getReg .a == 0xFF && t.getF == 0xBB && t.pc == 0x101) = true := by decide +kernel

/-- V28 (R199): SBC 0x00-0xFF-1. -/
theorem test_v28_sbc_0x00_0xff_1 : after (placed 0x100 [0x98] (regs 1 0xFF00 0 0))
    (fun t => t.getF == 0x53 && t.pc == 0x101) = true := by decide +kernel

/-- V29 (R199): SBC A,A with carry gives 0xFF. -/
theorem test_v29_sbc_a_a_with_carry_gives : after (placed 0x100 [0x9F] (regs 0x4201 0 0 0))
    (fun t => t.getReg .a == 0xFF && t.getF == 0xBB && t.pc == 0x101) = true := by decide +kernel

/-- V30 (R200): AND sets H, clears C. -/
theorem test_v30_and_sets_h_clears_c : after (placed 0x100 [0xA0] (regs 0xF001 0xF00 0 0))
    (fun t => t.getReg .a == 0 && t.getF == 0x54 && t.pc == 0x101) = true := by decide +kernel

/-- V31 (R201): XOR A clears A. -/
theorem test_v31_xor_a_clears_a : after (placed 0x100 [0xAF] (regs 0x5AFF 0 0 0))
    (fun t => t.getReg .a == 0 && t.getF == 0x44 && t.pc == 0x101) = true := by decide +kernel

/-- V32 (R202): OR parity. -/
theorem test_v32_or_parity : after (placed 0x100 [0xB0] (regs 0x100 0x200 0 0))
    (fun t => t.getReg .a == 3 && t.getF == 4 && t.pc == 0x101) = true := by decide +kernel

/-- V34 (R203): CP: Y and X come from the operand. -/
theorem test_v34_cp_y_and_x_come_from : after (placed 0x100 [0xB8] (regs 0 0x2800 0 0))
    (fun t => t.getF == 0xBB && t.pc == 0x101) = true := by decide +kernel

/-- V35 (R236): CP n: A < n. -/
theorem test_v35_cp_n_a_n : after (placed 0x100 [0xFE, 0x20] (regs 0x1000 0 0 0))
    (fun t => t.getReg .a == 0x10 && t.getF == 0xA3 && t.pc == 0x102) = true := by decide +kernel

/-- V36 (R229): ADD A,n half carry. -/
theorem test_v36_add_a_n_half_carry : after (placed 0x100 [0xC6, 1] (regs 0xF00 0 0 0))
    (fun t => t.getReg .a == 0x10 && t.getF == 0x10 && t.pc == 0x102) = true := by decide +kernel

/-- V37 (R203): CP (HL). -/
theorem test_v37_cp_hl : after (placed 0x100 [0xBE] (State.writeBytes (regs 0x8000 0 0 0x3000) 0x3000 [0x7F]))
    (fun t => t.getReg .a == 0x80 && t.getF == 0x3E && t.pc == 0x101) = true := by decide +kernel

/-- V38 (R164): INC r overflow 0x7F. -/
theorem test_v38_inc_r_overflow_0x7f : after (placed 0x100 [4] (regs 1 0x7F00 0 0))
    (fun t => t.getF == 0x95 && t.bc == 0x8000 && t.pc == 0x101) = true := by decide +kernel

/-- V40 (R165): DEC r overflow 0x80. -/
theorem test_v40_dec_r_overflow_0x80 : after (placed 0x100 [5] (regs 0 0x8000 0 0))
    (fun t => t.getF == 0x3E && t.bc == 0x7F00 && t.pc == 0x101) = true := by decide +kernel

/-- V41 (R165): DEC r 0x00 -> 0xFF, half borrow. -/
theorem test_v41_dec_r_0x00_0xff_half_borrow : after (placed 0x100 [0x2D] State.reset)
    (fun t => t.getF == 0xBA && t.hl == 0xFF && t.pc == 0x101) = true := by decide +kernel

/-- V42 (R164): INC (HL). -/
theorem test_v42_inc_hl : after (placed 0x100 [0x34] (State.writeBytes (regs 0 0 0 0x3000) 0x3000 [0xF]))
    (fun t => t.getF == 0x10 && t.pc == 0x101 && t.read 0x3000 == 0x10) = true := by decide +kernel

/-- V43 (R162): INC rp wrap, no flags. -/
theorem test_v43_inc_rp_wrap_no_flags : after (placed 0x100 [0x13] (regs 0 0 0xFFFF 0))
    (fun t => t.getF == 0 && t.de == 0 && t.pc == 0x101) = true := by decide +kernel

/-- V44 (R163): DEC SP wrap. -/
theorem test_v44_dec_sp_wrap : after (placed 0x100 [0x3B] State.reset)
    (fun t => t.sp == 0xFFFF && t.pc == 0x101) = true := by decide +kernel

/-- V45 (R153): ADD HL,HL carry out. -/
theorem test_v45_add_hl_hl_carry_out : after (placed 0x100 [0x29] (regs 0xC4 0 0 0x8000))
    (fun t => t.getF == 0xC5 && t.hl == 0 && t.pc == 0x101) = true := by decide +kernel

/-- V46 (R153): ADD HL,BC half carry from bit 11. -/
theorem test_v46_add_hl_bc_half_carry_from : after (placed 0x100 [9] (regs 0 1 0 0xFFF))
    (fun t => t.getF == 0x10 && t.hl == 0x1000 && t.pc == 0x101) = true := by decide +kernel

/-- V47 (R276): ADC HL,BC overflow. -/
theorem test_v47_adc_hl_bc_overflow : after (placed 0x100 [0xED, 0x4A] (regs 1 0 0 0x7FFF))
    (fun t => t.getF == 0x94 && t.hl == 0x8000 && t.pc == 0x102) = true := by decide +kernel

/-- V48 (R275): SBC HL,DE equal -> zero. -/
theorem test_v48_sbc_hl_de_equal_zero : after (placed 0x100 [0xED, 0x52] (regs 0 0 0x1234 0x1234))
    (fun t => t.getF == 0x42 && t.hl == 0 && t.pc == 0x102) = true := by decide +kernel

/-- V49 (R275): SBC HL,DE borrow. -/
theorem test_v49_sbc_hl_de_borrow : after (placed 0x100 [0xED, 0x52] (regs 0 0 1 0))
    (fun t => t.getF == 0xBB && t.hl == 0xFFFF && t.pc == 0x102) = true := by decide +kernel

/-- V51 (R167): RLCA keeps S, Z, PV. -/
theorem test_v51_rlca_keeps_s_z_pv : after (placed 0x100 [7] (regs 0x81C4 0 0 0))
    (fun t => t.getReg .a == 3 && t.getF == 0xC5 && t.pc == 0x101) = true := by decide +kernel

/-- V52 (R170): RRA through carry. -/
theorem test_v52_rra_through_carry : after (placed 0x100 [0x1F] (regs 0x100 0 0 0))
    (fun t => t.getReg .a == 0 && t.getF == 1 && t.pc == 0x101) = true := by decide +kernel

/-- V54 (R252): RRC r. -/
theorem test_v54_rrc_r : after (placed 0x100 [0xCB, 9] (regs 0 1 0 0))
    (fun t => t.getF == 0x81 && t.bc == 0x80 && t.pc == 0x102) = true := by decide +kernel

/-- V55 (R253): RL r with carry in. -/
theorem test_v55_rl_r_with_carry_in : after (placed 0x100 [0xCB, 0x12] (regs 1 0 0x8000 0))
    (fun t => t.getF == 1 && t.de == 0x100 && t.pc == 0x102) = true := by decide +kernel

/-- V56 (R254): RR r. -/
theorem test_v56_rr_r : after (placed 0x100 [0xCB, 0x1B] (regs 0 0 1 0))
    (fun t => t.getF == 0x45 && t.de == 0 && t.pc == 0x102) = true := by decide +kernel

/-- V57 (R255): SLA r. -/
theorem test_v57_sla_r : after (placed 0x100 [0xCB, 0x24] (regs 0 0 0 0x8100))
    (fun t => t.getF == 1 && t.hl == 0x200 && t.pc == 0x102) = true := by decide +kernel

/-- V58 (R256): SRA r keeps bit 7. -/
theorem test_v58_sra_r_keeps_bit_7 : after (placed 0x100 [0xCB, 0x2D] (regs 0 0 0 0x81))
    (fun t => t.getF == 0x85 && t.hl == 0xC0 && t.pc == 0x102) = true := by decide +kernel

/-- V59 (R257): SLL r (undocumented) shifts in 1. -/
theorem test_v59_sll_r_undocumented_shifts_in_1 : after (placed 0x100 [0xCB, 0x37] State.reset)
    (fun t => t.getReg .a == 1 && t.pc == 0x102) = true := by decide +kernel

/-- V60 (R258): SRL r to zero. -/
theorem test_v60_srl_r_to_zero : after (placed 0x100 [0xCB, 0x3F] (regs 0x100 0 0 0))
    (fun t => t.getReg .a == 0 && t.getF == 0x45 && t.pc == 0x102) = true := by decide +kernel

/-- V61 (R251): RLC (HL). -/
theorem test_v61_rlc_hl : after (placed 0x100 [0xCB, 6] (regs 0 0 0 0x3000))
    (fun t => t.getF == 0x44 && t.pc == 0x102) = true := by decide +kernel

/-- V62 (R259): BIT 7,A set: S. -/
theorem test_v62_bit_7_a_set_s : after (placed 0x100 [0xCB, 0x7F] (regs 0x8001 0 0 0))
    (fun t => t.getReg .a == 0x80 && t.getF == 0x91 && t.pc == 0x102) = true := by decide +kernel

/-- V63 (R259): BIT 0,B clear: Z, PV; Y, X from B. -/
theorem test_v63_bit_0_b_clear_z_pv : after (placed 0x100 [0xCB, 0x40] (regs 0 0x2800 0 0))
    (fun t => t.getF == 0x7C && t.pc == 0x102) = true := by decide +kernel

/-- V64 (R260): BIT 3,(HL): Y, X are draws. -/
theorem test_v64_bit_3_hl_y_x_are : after
    (placed 0x100 [0xCB, 0x5E] (State.writeBytes (regs 0 0 0 0x3000) 0x3000 [8]))
    (fun t => t.pc == 0x102) = true := by decide +kernel

/-- V65 (R261): RES 7,(HL). -/
theorem test_v65_res_7_hl : after
    (placed 0x100 [0xCB, 0xBE] (State.writeBytes (regs 0 0 0 0x3000) 0x3000 [0xFF]))
    (fun t => t.pc == 0x102 && t.read 0x3000 == 0x7F) = true := by decide +kernel

/-- V66 (R262): SET 0,A. -/
theorem test_v66_set_0_a : after (placed 0x100 [0xCB, 0xC7] (regs 0xFF 0 0 0))
    (fun t => t.getReg .a == 1 && t.getF == 0xFF && t.pc == 0x102) = true := by decide +kernel

/-- V67 (R171): DAA after 0x99 + 0x01 = 0x9A (N = 0). -/
theorem test_v67_daa_after_0x99_0x01_0x9a_n : after (placed 0x100 [0x27] (regs 0x9A00 0 0 0))
    (fun t => t.getReg .a == 0 && t.getF == 0x55 && t.pc == 0x101) = true := by decide +kernel

/-- V69 (R171): DAA with C set adds 0x60. -/
theorem test_v69_daa_with_c_set_adds_0x60 : after (placed 0x100 [0x27] (regs 1 0 0 0))
    (fun t => t.getReg .a == 0x60 && t.getF == 0x25 && t.pc == 0x101) = true := by decide +kernel

/-- V71 (R172): CPL. -/
theorem test_v71_cpl : after (placed 0x100 [0x2F] (regs 0xFF00 0 0 0))
    (fun t => t.getReg .a == 0 && t.getF == 0x12 && t.pc == 0x101) = true := by decide +kernel

/-- V72 (R279): NEG of 0x80. -/
theorem test_v72_neg_of_0x80 : after (placed 0x100 [0xED, 0x44] (regs 0x8000 0 0 0))
    (fun t => t.getReg .a == 0x80 && t.getF == 0x87 && t.pc == 0x102) = true := by decide +kernel

/-- V74 (R279): NEG alias ED 4C. -/
theorem test_v74_neg_alias_ed_4c : after (placed 0x100 [0xED, 0x4C] (regs 0x100 0 0 0))
    (fun t => t.getReg .a == 0xFF && t.getF == 0xBB && t.pc == 0x102) = true := by decide +kernel

/-- V75 (R173): SCF with SCF_CCF_XY = A/F. -/
theorem test_v75_scf_with_scf_ccf_xy_a : after
    (placed 0x100 [0x37] { regs 0x28 0 0 0 with params := { Params.default with scfCcfXY := .aOrF } })
    (fun t => t.getF == 0x29 && t.pc == 0x101) = true := by decide +kernel

/-- V76 (R173): SCF with SCF_CCF_XY = A (default). -/
theorem test_v76_scf_with_scf_ccf_xy_a : after (placed 0x100 [0x37] (regs 0x28 0 0 0))
    (fun t => t.getF == 1 && t.pc == 0x101) = true := by decide +kernel

/-- V77 (R174): CCF with C = 1. -/
theorem test_v77_ccf_with_c_1 : after (placed 0x100 [0x3F] (regs 0xFF01 0 0 0))
    (fun t => t.getReg .a == 0xFF && t.getF == 0x38 && t.pc == 0x101) = true := by decide +kernel

/-- V78 (R290): RRD. -/
theorem test_v78_rrd : after
    (placed 0x100 [0xED, 0x67] (State.writeBytes (regs 0x8400 0 0 0x5000) 0x5000 [0x20]))
    (fun t => t.getReg .a == 0x80 && t.getF == 0x80 && t.pc == 0x102 && t.read 0x5000 == 0x42) = true := by decide +kernel

/-- V79 (R291): RLD. -/
theorem test_v79_rld : after
    (placed 0x100 [0xED, 0x6F] (State.writeBytes (regs 0x7A00 0 0 0x5000) 0x5000 [0x31]))
    (fun t => t.getReg .a == 0x73 && t.getF == 0x20 && t.pc == 0x102 && t.read 0x5000 == 0x1A) = true := by decide +kernel

/-- V80 (R152): EX AF,AF'. -/
theorem test_v80_ex_af_af : after (placed 0x100 [8] (regs 0x1234 0 0 0))
    (fun t => t.getReg .a == 0 && t.getF == 0 && concat t.shad.a t.shad.f == 0x1234 && t.pc == 0x101) = true := by decide +kernel

/-- V81 (R217): EXX. -/
theorem test_v81_exx : after (placed 0x100 [0xD9] (regs 0 0x1111 0x2222 0x3333))
    (fun t => t.bc == 0 && t.de == 0 && t.hl == 0 && concat t.shad.b t.shad.c == 0x1111 && concat t.shad.d
      t.shad.e == 0x2222 && concat t.shad.h t.shad.l == 0x3333 && t.pc == 0x101) = true := by decide +kernel

/-- V82 (R216): EX DE,HL. -/
theorem test_v82_ex_de_hl : after (placed 0x100 [0xEB] (regs 0 0 0x1111 0x2222))
    (fun t => t.de == 0x2222 && t.hl == 0x1111 && t.pc == 0x101) = true := by decide +kernel

/-- V83 (R215): EX (SP),HL. -/
theorem test_v83_ex_sp_hl : after
    (placed 0x100 [0xE3] (State.writeBytes ({ regs 0 0 0 0x1234 with sp := 0x8000 }) 0x8000 [0x78, 0x56]))
    (fun t => t.hl == 0x5678 && t.pc == 0x101 && t.read 0x8000 == 0x34 && t.read 0x8001 == 0x12) = true := by decide +kernel

/-- V84 (R25, R166): ALT = 1: LD A,n writes the shadow A. -/
theorem test_v84_alt_1_ld_a_n_writes : after (placed 0x100 [0x3E, 0x99] { regs 0x1100 0 0 0 with alt := true })
    (fun t => t.prim.a == 0x11 && concat t.shad.a t.shad.f == 0x9900 && t.pc == 0x102) = true := by decide +kernel

/-- V85 (R26, R152): ALT = 1: EX AF,AF' swaps the shadow view with the primary cells. -/
theorem test_v85_alt_1_ex_af_af_swaps : after (placed 0x100 [8] { regs 0x1234 0 0 0 with alt := true })
    (fun t => t.prim.a == 0 && t.prim.f == 0 && concat t.shad.a t.shad.f == 0x1234 && t.pc == 0x101) = true := by decide +kernel

/-- V86 (R25, R325): ALT = 1: IX is not redirected. -/
theorem test_v86_alt_1_ix_is_not_redirected : after
    (placed 0x100 [0xDD, 0x23] { State.reset with alt := true, ix := 0x4000 })
    (fun t => t.ix == 0x4001 && t.pc == 0x102) = true := by decide +kernel

/-- V87 (R214): PUSH BC from reset SP = 0 (default MEM_SIZE): the high byte lands in cell 0. -/
theorem test_v87_push_bc_from_reset_sp_0 : after (placed 0x100 [0xC5] (regs 0 0xABCD 0 0))
    (fun t => t.sp == 0xFFFE && t.pc == 0x101 && t.read 0 == 0xAB && t.read 0xFFFE == 0xCD) = true := by decide +kernel

/-- V88 (R214): PUSH AF. -/
theorem test_v88_push_af : after (placed 0x100 [0xF5] { regs 0x12D7 0 0 0 with sp := 0x8000 })
    (fun t => t.getReg .a == 0x12 && t.getF == 0xD7 && t.sp == 0x7FFE && t.pc == 0x101 && t.read 0x7FFE == 0xD7
      && t.read 0x7FFF == 0x12) = true := by decide +kernel

/-- V89 (R213): POP AF. -/
theorem test_v89_pop_af : after
    (placed 0x100 [0xF1] (State.writeBytes ({ State.reset with sp := 0x8000 }) 0x8000 [0xFF, 0]))
    (fun t => t.getF == 0xFF && t.sp == 0x8002 && t.pc == 0x101) = true := by decide +kernel

/-- V90 (R213): POP at SP = 0xFFFE wraps SP to 0x0000. -/
theorem test_v90_pop_at_sp_0xfffe_wraps_sp : after
    (placed 0x100 [0xE1] (State.writeBytes ({ State.reset with sp := 0xFFFE }) 0xFFFE [0x34]))
    (fun t => t.hl == 0x34 && t.sp == 0 && t.pc == 0x101) = true := by decide +kernel

/-- V91 (R219): JP nn. -/
theorem test_v91_jp_nn : after (placed 0x100 [0xC3, 0, 0x20] State.reset)
    (fun t => t.pc == 0x2000) = true := by decide +kernel

/-- V92 (R220): JP NZ,nn not taken. -/
theorem test_v92_jp_nz_nn_not_taken : after (placed 0x100 [0xC2, 0, 0x20] (regs 0x40 0 0 0))
    (fun t => t.getF == 0x40 && t.pc == 0x103) = true := by decide +kernel

/-- V94 (R220): JP M,nn taken. -/
theorem test_v94_jp_m_nn_taken : after (placed 0x100 [0xFA, 0, 0x20] (regs 0x80 0 0 0))
    (fun t => t.getF == 0x80 && t.pc == 0x2000) = true := by decide +kernel

/-- V95 (R176): JR -128 from 0x0010 wraps. -/
theorem test_v95_jr_128_from_0x0010_wraps : after (placed 0x10 [0x18, 0x80] State.reset)
    (fun t => t.pc == 0xFF92) = true := by decide +kernel

/-- V96 (R176): JR +127. -/
theorem test_v96_jr_127 : after (placed 0x100 [0x18, 0x7F] State.reset)
    (fun t => t.pc == 0x181) = true := by decide +kernel

/-- V97 (R177): JR NC,e taken. -/
theorem test_v97_jr_nc_e_taken : after (placed 0x100 [0x30, 5] State.reset)
    (fun t => t.pc == 0x107) = true := by decide +kernel

/-- V98 (R175): DJNZ with B = 1 falls through. -/
theorem test_v98_djnz_with_b_1_falls_through : after (placed 0x100 [0x10, 0xFE] (regs 0 0x100 0 0))
    (fun t => t.bc == 0 && t.pc == 0x102) = true := by decide +kernel

/-- V99 (R175): DJNZ with B = 0 wraps B to 0xFF and jumps. -/
theorem test_v99_djnz_with_b_0_wraps_b : after (placed 0x100 [0x10, 0xFE] State.reset)
    (fun t => t.bc == 0xFF00 && t.pc == 0x100) = true := by decide +kernel

/-- V100 (R222): CALL nn. -/
theorem test_v100_call_nn : after (placed 0x100 [0xCD, 0, 0x30] { State.reset with sp := 0x8000 })
    (fun t => t.sp == 0x7FFE && t.pc == 0x3000 && t.read 0x7FFE == 3 && t.read 0x7FFF == 1) = true := by decide +kernel

/-- V101 (R223): CALL C,nn not taken: SP unchanged. -/
theorem test_v101_call_c_nn_not_taken_sp : after
    (placed 0x100 [0xDC, 0, 0x30] { State.reset with sp := 0x8000 })
    (fun t => t.pc == 0x103) = true := by decide +kernel

/-- V102 (R212): RET. -/
theorem test_v102_ret : after
    (placed 0x100 [0xC9] (State.writeBytes ({ State.reset with sp := 0x7FFE }) 0x7FFE [3, 1]))
    (fun t => t.sp == 0x8000 && t.pc == 0x103) = true := by decide +kernel

/-- V103 (R211): RET Z not taken. -/
theorem test_v103_ret_z_not_taken : after
    (placed 0x100 [0xC8] (State.writeBytes ({ State.reset with sp := 0x7FFE }) 0x7FFE [3, 1]))
    (fun t => t.pc == 0x101) = true := by decide +kernel

/-- V104 (R211): RET Z taken. -/
theorem test_v104_ret_z_taken : after
    (placed 0x100 [0xC8] (State.writeBytes ({ regs 0x40 0 0 0 with sp := 0x7FFE }) 0x7FFE [3, 1]))
    (fun t => t.getF == 0x40 && t.sp == 0x8000 && t.pc == 0x103) = true := by decide +kernel

/-- V105 (R224): RST 38h. -/
theorem test_v105_rst_38h : after (placed 0x1234 [0xFF] { State.reset with sp := 0x8000 })
    (fun t => t.sp == 0x7FFE && t.pc == 0x38 && t.read 0x7FFE == 0x35 && t.read 0x7FFF == 0x12) = true := by decide +kernel

/-- V106 (R221): JP (HL). -/
theorem test_v106_jp_hl : after (placed 0x100 [0xE9] (regs 0 0 0 0x4321))
    (fun t => t.pc == 0x4321) = true := by decide +kernel

/-- V107 (R191): HALT leaves PC at the opcode. -/
theorem test_v107_halt_leaves_pc_at_the_opcode : after (placed 0x200 [0x76] State.reset)
    (fun t => t.pc == 0x200 && t.halted) = true := by decide +kernel

/-- V108 (R280): RETN copies IFF2 to IFF1. -/
theorem test_v108_retn_copies_iff2_to_iff1 : after
    (placed 0x100 [0xED, 0x45] (State.writeBytes ({ State.reset with sp := 0x7FFE, iff2 := true }) 0x7FFE [0, 2]))
    (fun t => t.sp == 0x8000 && t.pc == 0x200 && t.iff1) = true := by decide +kernel

/-- V109 (R281): RETI. -/
theorem test_v109_reti : after
    (placed 0x100 [0xED, 0x4D] (State.writeBytes ({ State.reset with sp := 0x7FFE, iff1 := true }) 0x7FFE [0, 2]))
    (fun t => t.sp == 0x8000 && t.pc == 0x200 && !t.iff1) = true := by decide +kernel

/-- V110 (R227): DI. -/
theorem test_v110_di : after (placed 0x100 [0xF3] { State.reset with iff1 := true, iff2 := true })
    (fun t => t.pc == 0x101 && !t.iff1 && !t.iff2) = true := by decide +kernel

/-- V111 (R228): EI. -/
theorem test_v111_ei : after (placed 0x100 [0xFB] State.reset)
    (fun t => t.pc == 0x101 && t.iff1 && t.iff2) = true := by decide +kernel

/-- V112 (R284): IM 1. -/
theorem test_v112_im_1 : after (placed 0x100 [0xED, 0x56] State.reset)
    (fun t => t.pc == 0x102 && t.im == .im1) = true := by decide +kernel

/-- V113 (R283): IM 0* (ED 4E): IM is a draw. -/
theorem test_v113_im_0_ed_4e_im_is : after (placed 0x100 [0xED, 0x4E] State.reset)
    (fun t => t.pc == 0x102) = true := by decide +kernel

/-- V114 (R286): LD I,A. -/
theorem test_v114_ld_i_a : after (placed 0x100 [0xED, 0x47] (regs 0x3800 0 0 0))
    (fun t => t.getReg .a == 0x38 && t.pc == 0x102 && t.i == 0x38) = true := by decide +kernel

/-- V115 (R287): LD R,A writes all 8 bits after the bump. -/
theorem test_v115_ld_r_a_writes_all_8 : after (placed 0x100 [0xED, 0x4F] { regs 0x8000 0 0 0 with r := 5 })
    (fun t => t.getReg .a == 0x80 && t.pc == 0x102 && t.r == 0x80) = true := by decide +kernel

/-- V116 (R289): LD A,R reads R after the bump; PV = IFF2. -/
theorem test_v116_ld_a_r_reads_r_after : after
    (placed 0x100 [0xED, 0x5F] { State.reset with r := 0x7E, iff2 := true })
    (fun t => t.getF == 0x44 && t.pc == 0x102 && t.r == 0) = true := by decide +kernel

/-- V117 (R288): LD A,I negative. -/
theorem test_v117_ld_a_i_negative : after (placed 0x100 [0xED, 0x57] { State.reset with i := 0x80 })
    (fun t => t.getReg .a == 0x80 && t.getF == 0x80 && t.pc == 0x102) = true := by decide +kernel

/-- V118 (R225): OUT (n),A: port A:n. -/
theorem test_v118_out_n_a_port_a_n : after (placed 0x100 [0xD3, 0x34] (regs 0x1200 0 0 0))
    (fun t => t.getReg .a == 0x12 && t.pc == 0x102 && t.events == [.output 0x1234 0x12]) = true := by decide +kernel

/-- V119 (R226): IN A,(n): port A:n, no flags (oracle returns 0x5A). -/
theorem test_v119_in_a_n_port_a_n : after (placed 0x100 [0xDB, 0x34] (regs 0x12FF 0 0 0))
    (fun t => t.getF == 0xFF && t.pc == 0x102 && inputPort t == some 0x1234) = true := by decide +kernel

/-- V120 (R271): IN B,(C): flags from the byte (oracle returns 0xFF). -/
theorem test_v120_in_b_c_flags_from_the : after (placed 0x100 [0xED, 0x40] (regs 1 0x1234 0 0))
    (fun t => t.pc == 0x102 && inputPort t == some 0x1234) = true := by decide +kernel

/-- V121 (R272): IN (C): flags only (oracle returns 0x00). -/
theorem test_v121_in_c_flags_only : after (placed 0x100 [0xED, 0x70] (regs 0 0x1234 0 0))
    (fun t => t.pc == 0x102 && inputPort t == some 0x1234) = true := by decide +kernel

/-- V122 (R273): OUT (C),A. -/
theorem test_v122_out_c_a : after (placed 0x100 [0xED, 0x79] (regs 0x4100 0x110 0 0))
    (fun t => t.getReg .a == 0x41 && t.pc == 0x102 && t.events == [.output 0x0110 0x41]) = true := by decide +kernel

/-- V123 (R274): OUT (C),0 with OUT_C0_VALUE = 0xFF. -/
theorem test_v123_out_c_0_with_out_c0 : after
    (placed 0x100 [0xED, 0x71] { regs 0 0x110 0 0 with params := { Params.default with outC0Value := 0xFF } })
    (fun t => t.pc == 0x102 && t.events == [.output 0x0110 0xFF]) = true := by decide +kernel

/-- V124 (R293): LDI, BC 1 -> 0: PV = 0. -/
theorem test_v124_ldi_bc_1_0_pv_0 : after
    (placed 0x100 [0xED, 0xA0] (State.writeBytes (regs 0 1 0x4000 0x3000) 0x3000 [0xA]))
    (fun t => t.getF == 0x28 && t.bc == 0 && t.de == 0x4001 && t.hl == 0x3001 && t.pc == 0x102 && t.read 0x4000
      == 0xA) = true := by decide +kernel

/-- V125 (R293): LDI, BC 2 -> 1: PV = 1; Y, X from A + v. -/
theorem test_v125_ldi_bc_2_1_pv_1 : after
    (placed 0x100 [0xED, 0xA0] (State.writeBytes (regs 0x1000 2 0x4000 0x3000) 0x3000 [0x12]))
    (fun t => t.getReg .a == 0x10 && t.getF == 0x24 && t.bc == 1 && t.de == 0x4001 && t.hl == 0x3001 && t.pc ==
      0x102 && t.read 0x4000 == 0x12) = true := by decide +kernel

/-- V126 (R294): LDD. -/
theorem test_v126_ldd : after
    (placed 0x100 [0xED, 0xA8] (State.writeBytes (regs 0 3 0x4000 0x3000) 0x3000 [0x55]))
    (fun t => t.getF == 4 && t.bc == 2 && t.de == 0x3FFF && t.hl == 0x2FFF && t.pc == 0x102 && t.read 0x4000 ==
      0x55) = true := by decide +kernel

/-- V127 (R295): LDIR iteration with BC 2 -> 1: PC stays at pc0; Y, X draws. -/
theorem test_v127_ldir_iteration_with_bc_2_1 : after
    (placed 0x100 [0xED, 0xB0] (State.writeBytes (regs 0 2 0x4000 0x3000) 0x3000 [0x11]))
    (fun t => t.bc == 1 && t.de == 0x4001 && t.hl == 0x3001 && t.pc == 0x100 && t.read 0x4000 == 0x11) = true := by decide +kernel

/-- V128 (R295): LDIR last iteration BC 1 -> 0. -/
theorem test_v128_ldir_last_iteration_bc_1_0 : after
    (placed 0x100 [0xED, 0xB0] (State.writeBytes (regs 0 1 0x4001 0x3001) 0x3001 [0x22]))
    (fun t => t.getF == 0x20 && t.bc == 0 && t.de == 0x4002 && t.hl == 0x3002 && t.pc == 0x102 && t.read 0x4001
      == 0x22) = true := by decide +kernel

/-- V129 (R296): LDDR with BC = 0 copies 65536 times; first step. -/
theorem test_v129_lddr_with_bc_0_copies_65536 : after
    (placed 0x100 [0xED, 0xB8] (State.writeBytes (regs 0 0 0x4000 0x3000) 0x3000 [0x33]))
    (fun t => t.bc == 0xFFFF && t.de == 0x3FFF && t.hl == 0x2FFF && t.pc == 0x100 && t.read 0x4000 == 0x33) = true := by decide +kernel

/-- V130 (R297): CPI match. -/
theorem test_v130_cpi_match : after
    (placed 0x100 [0xED, 0xA1] (State.writeBytes (regs 0x4200 5 0 0x3000) 0x3000 [0x42]))
    (fun t => t.getReg .a == 0x42 && t.getF == 0x46 && t.bc == 4 && t.hl == 0x3001 && t.pc == 0x102) = true := by decide +kernel

/-- V131 (R297): CPI with half borrow: k = res - H. -/
theorem test_v131_cpi_with_half_borrow_k_res : after
    (placed 0x100 [0xED, 0xA1] (State.writeBytes (regs 0x1001 1 0 0x3000) 0x3000 [1]))
    (fun t => t.getReg .a == 0x10 && t.getF == 0x3B && t.bc == 0 && t.hl == 0x3001 && t.pc == 0x102) = true := by decide +kernel

/-- V132 (R298): CPD. -/
theorem test_v132_cpd : after (placed 0x100 [0xED, 0xA9] (State.writeBytes (regs 0 2 0 0x3000) 0x3000 [1]))
    (fun t => t.getF == 0xBE && t.bc == 1 && t.hl == 0x2FFF && t.pc == 0x102) = true := by decide +kernel

/-- V133 (R299): CPIR repeats on no match. -/
theorem test_v133_cpir_repeats_on_no_match : after (placed 0x100 [0xED, 0xB1] (regs 0x4200 5 0 0x3000))
    (fun t => t.getReg .a == 0x42 && t.bc == 4 && t.hl == 0x3001 && t.pc == 0x100) = true := by decide +kernel

/-- V134 (R299): CPIR stops on match. -/
theorem test_v134_cpir_stops_on_match : after
    (placed 0x100 [0xED, 0xB1] (State.writeBytes (regs 0x4200 5 0 0x3000) 0x3000 [0x42]))
    (fun t => t.getReg .a == 0x42 && t.getF == 0x46 && t.bc == 4 && t.hl == 0x3001 && t.pc == 0x102) = true := by decide +kernel

/-- V135 (R300): CPDR stops at BC = 0. -/
theorem test_v135_cpdr_stops_at_bc_0 : after (placed 0x100 [0xED, 0xB9] (regs 0x4200 1 0 0x3000))
    (fun t => t.getReg .a == 0x42 && t.getF == 0x22 && t.bc == 0 && t.hl == 0x2FFF && t.pc == 0x102) = true := by decide +kernel

/-- V136 (R301): INI (oracle returns 0x5A): port uses B before the decrement. -/
theorem test_v136_ini_port_uses_b_before_the : after (placed 0x100 [0xED, 0xA2] (regs 0 0x210 0 0x5000))
    (fun t => t.bc == 0x110 && t.hl == 0x5001 && t.pc == 0x102 && inputPort t == some 0x0210) = true := by decide +kernel

/-- V137 (R302): IND (oracle returns 0xFF). -/
theorem test_v137_ind : after (placed 0x100 [0xED, 0xAA] (regs 0 0x110 0 0x5000))
    (fun t => t.bc == 0x10 && t.hl == 0x4FFF && t.pc == 0x102 && inputPort t == some 0x0110) = true := by decide +kernel

/-- V138 (R303): INIR iteration B 2 -> 1: H, PV, Y, X draws. -/
theorem test_v138_inir_iteration_b_2_1_h : after (placed 0x100 [0xED, 0xB2] (regs 0 0x210 0 0x5000))
    (fun t => t.bc == 0x110 && t.hl == 0x5001 && t.pc == 0x100 && inputPort t == some 0x0210) = true := by decide +kernel

/-- V139 (R305): OUTI: B decremented before the port is formed. -/
theorem test_v139_outi_b_decremented_before_the_port : after
    (placed 0x100 [0xED, 0xA3] (State.writeBytes (regs 0 0x110 0 0x5000) 0x5000 [0x80]))
    (fun t => t.getF == 0x42 && t.bc == 0x10 && t.hl == 0x5001 && t.pc == 0x102 && t.events == [.output 0x0010
      0x80]) = true := by decide +kernel

/-- V140 (R306): OUTD: k = v + new L. -/
theorem test_v140_outd_k_v_new_l : after
    (placed 0x100 [0xED, 0xAB] (State.writeBytes (regs 0 0x210 0 0x50FF) 0x50FF [0xF0]))
    (fun t => t.getF == 0x13 && t.bc == 0x110 && t.hl == 0x50FE && t.pc == 0x102 && t.events == [.output 0x0110
      0xF0]) = true := by decide +kernel

/-- V141 (R307): OTIR last iteration B 1 -> 0. -/
theorem test_v141_otir_last_iteration_b_1_0 : after
    (placed 0x100 [0xED, 0xB3] (State.writeBytes (regs 0 0x110 0 0x5000) 0x5000 [1]))
    (fun t => t.getF == 0x40 && t.bc == 0x10 && t.hl == 0x5001 && t.pc == 0x102 && t.events == [.output 0x0010
      0x01]) = true := by decide +kernel

/-- V142 (R308): OTDR iteration. -/
theorem test_v142_otdr_iteration : after
    (placed 0x100 [0xED, 0xBB] (State.writeBytes (regs 0 0x310 0 0x5000) 0x5000 [7]))
    (fun t => t.bc == 0x210 && t.hl == 0x4FFF && t.pc == 0x100 && t.events == [.output 0x0210 0x07]) = true := by decide +kernel

/-- V143 (R309): ED 00: 2-byte no-op. -/
theorem test_v143_ed_00_2_byte_no_op : after (placed 0x100 [0xED, 0] State.reset)
    (fun t => t.pc == 0x102 && t.r == 2) = true := by decide +kernel

/-- V144 (R309): ED 77: 2-byte no-op. -/
theorem test_v144_ed_77_2_byte_no_op : after (placed 0x100 [0xED, 0x77] State.reset)
    (fun t => t.pc == 0x102) = true := by decide +kernel

/-- V145 (R309): ED FF: 2-byte no-op. -/
theorem test_v145_ed_ff_2_byte_no_op : after (placed 0x100 [0xED, 0xFF] State.reset)
    (fun t => t.pc == 0x102) = true := by decide +kernel

/-- V146 (R359): DD 3C falls through to INC A. -/
theorem test_v146_dd_3c_falls_through_to_inc : after (placed 0x100 [0xDD, 0x3C] (regs 0xF00 0 0 0))
    (fun t => t.getReg .a == 0x10 && t.getF == 0x10 && t.pc == 0x102) = true := by decide +kernel

/-- V148 (R359): DD CD: CALL pushes pc0 + 4. -/
theorem test_v148_dd_cd_call_pushes_pc0_4 : after
    (placed 0x100 [0xDD, 0xCD, 0, 0x30] { State.reset with sp := 0x8000 })
    (fun t => t.sp == 0x7FFE && t.pc == 0x3000 && t.read 0x7FFE == 4 && t.read 0x7FFF == 1) = true := by decide +kernel

/-- V149 (R360): DD DD: first DD is a 1-byte no-op. -/
theorem test_v149_dd_dd_first_dd_is_a : after (placed 0x100 [0xDD, 0xDD, 9] State.reset)
    (fun t => t.pc == 0x101 && t.r == 1) = true := by decide +kernel

/-- V151 (R399, R359): DD 76: HALT, PC at the 0x76 byte. -/
theorem test_v151_dd_76_halt_pc_at_the : after (placed 0x200 [0xDD, 0x76] State.reset)
    (fun t => t.pc == 0x201 && t.r == 2 && t.halted) = true := by decide +kernel

/-- V152 (R322): LD IX,nn. -/
theorem test_v152_ld_ix_nn : after (placed 0x100 [0xDD, 0x21, 0x34, 0x12] State.reset)
    (fun t => t.ix == 0x1234 && t.pc == 0x104) = true := by decide +kernel

/-- V153 (R332): LD (IX+d),n with d = -1. -/
theorem test_v153_ld_ix_d_n_with_d : after
    (placed 0x100 [0xDD, 0x36, 0xFF, 0x99] { State.reset with ix := 0x4000 })
    (fun t => t.pc == 0x104 && t.read 0x3FFF == 0x99) = true := by decide +kernel

/-- V154 (R333): LD H,(IX+d) loads the real H. -/
theorem test_v154_ld_h_ix_d_loads_the : after
    (placed 0x100 [0xDD, 0x66, 2] (State.writeBytes ({ State.reset with ix := 0x4000 }) 0x4002 [0x5A]))
    (fun t => t.hl == 0x5A00 && t.pc == 0x103) = true := by decide +kernel

/-- V155 (R334): LD (IY+d),L stores the real L. -/
theorem test_v155_ld_iy_d_l_stores_the : after
    (placed 0x100 [0xFD, 0x75, 0x7F] { regs 0 0 0 0x77 with iy := 0x4000 })
    (fun t => t.pc == 0x103 && t.read 0x407F == 0x77) = true := by decide +kernel

/-- V156 (R330): INC (IX+d). -/
theorem test_v156_inc_ix_d : after
    (placed 0x100 [0xDD, 0x34, 0x10] (State.writeBytes ({ State.reset with ix := 0x4000 }) 0x4010 [0x7F]))
    (fun t => t.getF == 0x94 && t.pc == 0x103 && t.read 0x4010 == 0x80) = true := by decide +kernel

/-- V157 (R331): DEC (IY+d). -/
theorem test_v157_dec_iy_d : after
    (placed 0x100 [0xFD, 0x35, 0x80] (State.writeBytes ({ State.reset with iy := 0x4000 }) 0x3F80 [1]))
    (fun t => t.getF == 0x42 && t.pc == 0x103 && t.read 0x3F80 == 0) = true := by decide +kernel

/-- V158 (R321): ADD IX,IX. -/
theorem test_v158_add_ix_ix : after (placed 0x100 [0xDD, 0x29] { State.reset with ix := 0x8800 })
    (fun t => t.getF == 0x11 && t.ix == 0x1000 && t.pc == 0x102) = true := by decide +kernel

/-- V159 (R321): ADD IY,SP. -/
theorem test_v159_add_iy_sp : after (placed 0x100 [0xFD, 0x39] { State.reset with iy := 0xFFF, sp := 1 })
    (fun t => t.getF == 0x10 && t.iy == 0x1000 && t.pc == 0x102) = true := by decide +kernel

/-- V160 (R329): LD IXH,n. -/
theorem test_v160_ld_ixh_n : after (placed 0x100 [0xDD, 0x26, 0xAB] { State.reset with ix := 0x1234 })
    (fun t => t.ix == 0xAB34 && t.pc == 0x103) = true := by decide +kernel

/-- V161 (R336): LD IYL,A. -/
theorem test_v161_ld_iyl_a : after (placed 0x100 [0xFD, 0x6F] { regs 0xCD00 0 0 0 with iy := 0x1234 })
    (fun t => t.getReg .a == 0xCD && t.iy == 0x12CD && t.pc == 0x102) = true := by decide +kernel

/-- V162 (R335): LD B,IXL. -/
theorem test_v162_ld_b_ixl : after (placed 0x100 [0xDD, 0x45] { State.reset with ix := 0x1234 })
    (fun t => t.bc == 0x3400 && t.pc == 0x102) = true := by decide +kernel

/-- V163 (R337): LD IXH,IXL. -/
theorem test_v163_ld_ixh_ixl : after (placed 0x100 [0xDD, 0x65] { State.reset with ix := 0x1234 })
    (fun t => t.ix == 0x3434 && t.pc == 0x102) = true := by decide +kernel

/-- V164 (R327): INC IYH overflow. -/
theorem test_v164_inc_iyh_overflow : after (placed 0x100 [0xFD, 0x24] { State.reset with iy := 0x7F00 })
    (fun t => t.getF == 0x94 && t.iy == 0x8000 && t.pc == 0x102) = true := by decide +kernel

/-- V165 (R338): ADD A,IYH. -/
theorem test_v165_add_a_iyh : after (placed 0x100 [0xFD, 0x84] { regs 0x100 0 0 0 with iy := 0xFF00 })
    (fun t => t.getReg .a == 0 && t.getF == 0x51 && t.pc == 0x102) = true := by decide +kernel

/-- V166 (R345): CP IXL. -/
theorem test_v166_cp_ixl : after (placed 0x100 [0xDD, 0xBD] { regs 0x1000 0 0 0 with ix := 0x20 })
    (fun t => t.getReg .a == 0x10 && t.getF == 0xA3 && t.pc == 0x102) = true := by decide +kernel

/-- V167 (R346): ADD A,(IX+d). -/
theorem test_v167_add_a_ix_d : after
    (placed 0x100 [0xDD, 0x86, 5] (State.writeBytes ({ regs 0x1000 0 0 0 with ix := 0x4000 }) 0x4005 [0x20]))
    (fun t => t.getReg .a == 0x30 && t.getF == 0x20 && t.pc == 0x103) = true := by decide +kernel

/-- V168 (R353): CP (IY+d). -/
theorem test_v168_cp_iy_d : after
    (placed 0x100 [0xFD, 0xBE, 0xFE] (State.writeBytes ({ regs 0x1000 0 0 0 with iy := 0x4000 }) 0x3FFE [0x10]))
    (fun t => t.getReg .a == 0x10 && t.getF == 0x42 && t.pc == 0x103) = true := by decide +kernel

/-- V169 (R324): LD IX,(nn). -/
theorem test_v169_ld_ix_nn : after
    (placed 0x100 [0xDD, 0x2A, 0, 0x40] (State.writeBytes State.reset 0x4000 [0xEF, 0xBE]))
    (fun t => t.ix == 0xBEEF && t.pc == 0x104) = true := by decide +kernel

/-- V170 (R323): LD (nn),IY. -/
theorem test_v170_ld_nn_iy : after (placed 0x100 [0xFD, 0x22, 0, 0x40] { State.reset with iy := 0xCAFE })
    (fun t => t.pc == 0x104 && t.read 0x4000 == 0xFE && t.read 0x4001 == 0xCA) = true := by decide +kernel

/-- V171 (R355): PUSH IY. -/
theorem test_v171_push_iy : after (placed 0x100 [0xFD, 0xE5] { State.reset with sp := 0x8000, iy := 0x1234 })
    (fun t => t.sp == 0x7FFE && t.pc == 0x102 && t.read 0x7FFE == 0x34 && t.read 0x7FFF == 0x12) = true := by decide +kernel

/-- V172 (R354): POP IX. -/
theorem test_v172_pop_ix : after
    (placed 0x100 [0xDD, 0xE1] (State.writeBytes ({ State.reset with sp := 0x8000 }) 0x8000 [0x34, 0x12]))
    (fun t => t.ix == 0x1234 && t.sp == 0x8002 && t.pc == 0x102) = true := by decide +kernel

/-- V173 (R356): EX (SP),IX. -/
theorem test_v173_ex_sp_ix : after
    (placed 0x100 [0xDD, 0xE3]
      (State.writeBytes ({ State.reset with sp := 0x8000, ix := 0x1234 }) 0x8000 [0x78, 0x56]))
    (fun t => t.ix == 0x5678 && t.pc == 0x102 && t.read 0x8000 == 0x34 && t.read 0x8001 == 0x12) = true := by decide +kernel

/-- V174 (R357): JP (IY). -/
theorem test_v174_jp_iy : after (placed 0x100 [0xFD, 0xE9] { State.reset with iy := 0x4321 })
    (fun t => t.pc == 0x4321) = true := by decide +kernel

/-- V175 (R358): LD SP,IX. -/
theorem test_v175_ld_sp_ix : after (placed 0x100 [0xDD, 0xF9] { State.reset with ix := 0x9000 })
    (fun t => t.sp == 0x9000 && t.pc == 0x102) = true := by decide +kernel

/-- V176 (R325): INC IX wrap. -/
theorem test_v176_inc_ix_wrap : after (placed 0x100 [0xDD, 0x23] { State.reset with ix := 0xFFFF })
    (fun t => t.ix == 0 && t.pc == 0x102) = true := by decide +kernel

/-- V177 (R330): INC (IX+d) with IX + d wrapping past 0xFFFF. -/
theorem test_v177_inc_ix_d_with_ix_d : after
    (placed 0x100 [0xDD, 0x34, 2] (State.writeBytes ({ State.reset with ix := 0xFFFF }) 1 [0x41]))
    (fun t => t.pc == 0x103 && t.read 1 == 0x42) = true := by decide +kernel

/-- V178 (R381): RLC (IX+d). -/
theorem test_v178_rlc_ix_d : after
    (placed 0x100 [0xDD, 0xCB, 1, 6] (State.writeBytes ({ State.reset with ix := 0x4000 }) 0x4001 [0x80]))
    (fun t => t.getF == 1 && t.pc == 0x104 && t.read 0x4001 == 1) = true := by decide +kernel

/-- V179 (R381): RLC (IX+d),B copy form. -/
theorem test_v179_rlc_ix_d_b_copy_form : after
    (placed 0x100 [0xDD, 0xCB, 1, 0] (State.writeBytes ({ State.reset with ix := 0x4000 }) 0x4001 [0x80]))
    (fun t => t.getF == 1 && t.bc == 0x100 && t.pc == 0x104 && t.read 0x4001 == 1) = true := by decide +kernel

/-- V180 (R388): SRL (IY+d),H copy form writes the real H. -/
theorem test_v180_srl_iy_d_h_copy_form : after
    (placed 0x100 [0xFD, 0xCB, 0xFF, 0x3C] (State.writeBytes ({ regs 0 0 0 0x1111 with iy := 0x4000 }) 0x3FFF [3]))
    (fun t => t.getF == 1 && t.hl == 0x111 && t.pc == 0x104 && t.read 0x3FFF == 1) = true := by decide +kernel

/-- V181 (R389): BIT 0,(IX+d): Y, X from the high byte of the address. -/
theorem test_v181_bit_0_ix_d_y_x : after
    (placed 0x100 [0xDD, 0xCB, 0, 0x46] (State.writeBytes ({ State.reset with ix := 0x2800 }) 0x2800 [1]))
    (fun t => t.getF == 0x38 && t.pc == 0x104) = true := by decide +kernel

/-- V182 (R389): BIT 7,(IY+d) alias z = 0. -/
theorem test_v182_bit_7_iy_d_alias_z : after
    (placed 0x100 [0xFD, 0xCB, 0, 0x78] (State.writeBytes ({ State.reset with iy := 0x4000 }) 0x4000 [0x80]))
    (fun t => t.getF == 0x90 && t.pc == 0x104) = true := by decide +kernel

/-- V183 (R390): RES 0,(IX+d),A copy form. -/
theorem test_v183_res_0_ix_d_a_copy : after
    (placed 0x100 [0xDD, 0xCB, 2, 0x87] (State.writeBytes ({ State.reset with ix := 0x4000 }) 0x4002 [0xFF]))
    (fun t => t.getReg .a == 0xFE && t.pc == 0x104 && t.read 0x4002 == 0xFE) = true := by decide +kernel

/-- V184 (R391): SET 7,(IY+d). -/
theorem test_v184_set_7_iy_d : after (placed 0x100 [0xFD, 0xCB, 0x80, 0xFE] { State.reset with iy := 0x4000 })
    (fun t => t.pc == 0x104 && t.read 0x3F80 == 0x80) = true := by decide +kernel

/-- V185 (R385): SLA (IX+d), F from the result. -/
theorem test_v185_sla_ix_d_f_from_the : after
    (placed 0x100 [0xDD, 0xCB, 0, 0x26] (State.writeBytes ({ State.reset with ix := 0x4000 }) 0x4000 [0x80]))
    (fun t => t.getF == 0x45 && t.pc == 0x104 && t.read 0x4000 == 0) = true := by decide +kernel

/-! ## The host's table words and the fetch -/

/-- The table of opcode_table.json has the first byte highest (R102, log entry 2): DD CB d op is 0xDDCB0006. -/
theorem test_table_word : decodeTableWord 32 0xDDCB0106 = some (.rlcAtIxd .ix 1 none) ∧
    decodeTableWord 16 0xED44 = some (.neg 0) ∧ decodeTableWord 8 0x76 = some .halt ∧
    decodeTableWord 8 0x21 = some (.ldRpNn .hl 0) := by decide +kernel

/-- A table word placed at the PC runs as the first instruction after reset. -/
theorem test_fetch_word :
    after (State.reset.withFetchWord 16 0x3E42) (fun t => t.getReg .a == 0x42 && t.pc == 2) = true := by
  decide +kernel

/-! ## Memory, construction and runs -/

/-- Writing 0, what an unlisted cell holds, removes the entry; entries stand by rising cell number. -/
theorem test_memory_form :
    (State.reset.writeBytes 7 [1, 2, 3]).mem = [(7, 1), (8, 2), (9, 3)] ∧
      ((State.reset.writeBytes 7 [1, 2, 3]).write 8 0).mem = [(7, 1), (9, 3)] ∧
      ((State.reset.write 9 3).write 0xFFFF 5).mem = [(0, 5), (9, 3)] := by decide +kernel

/-- The scenario W6: LD A,n then HALT, run to the end with a budget to spare. -/
theorem test_w6_run_until_halted :
    (match runUntilHalted 5 (placed 0 [0x3E, 0x42, 0x76] State.reset) with
      | .next t => t.halted && t.getReg .a == 0x42 && t.pc == 2 && t.r == 2
      | _ => false) = true := by decide +kernel

/-- The scenario W7: LD (BC),A. -/
theorem test_w7_store_at_bc : after (placed 0 [0x02] (regs 0x5500 0x1000 0 0))
    (fun t => t.read 0x1000 == 0x55 && t.pc == 1) = true := by decide +kernel

/-- The scenario W8: LD (nn),A, the address low byte first. -/
theorem test_w8_store_at_nn : after (placed 0 [0x32, 0x00, 0x20] (regs 0x9900 0 0 0))
    (fun t => t.read 0x2000 == 0x99 && t.pc == 3) = true := by decide +kernel

/-! ## Witnesses: what meets the hypotheses of the statements, clause by clause -/

/-- A state at the top of the address space with something in memory. -/
def busy : State := { regs 0x9955 0x0001 0x4000 0x3000 with pc := 0xFFFF, sp := 0x8000, mem := [(0, 0x3C), (5, 1)] }

theorem witness_decode_of_encode :
    (Instr.xyFallThrough .iy (.ldRpNn .sp 0xFFFF)).wellFormed = true ∧ (Instr.ldIxpR .ix .low .a).wellFormed = true := by
  decide +kernel

theorem witness_step_keeps_inv : busy.Inv ∧ ∃ t, step busy = .next t :=
  ⟨⟨by decide +kernel, by decide +kernel, by decide +kernel⟩, after_next (p := fun _ => true) (by decide +kernel)⟩

theorem witness_reset_has_inv : construct Params.default = .next State.reset := rfl

theorem witness_other_bank_kept :
    (Instr.xyFallThrough .ix .daa).wellFormed = true ∧ (Instr.xyFallThrough .ix .daa).ruleOf ≠ .exAfAf ∧
      (Instr.xyFallThrough .ix .daa).ruleOf ≠ .exx := by decide +kernel

/-- One instruction that meets the premise of every clause. -/
theorem witness_only_named_writers :
    (Instr.xyThenEd .ix).wellFormed = true ∧ Instr.xyThenEd .ix ≠ .ldIA ∧ Instr.xyThenEd .ix ≠ .ldRefreshA ∧
      (Instr.xyThenEd .ix).ruleOf ≠ .halt ∧ (Instr.xyThenEd .ix).ruleOf ≠ .di ∧
      (Instr.xyThenEd .ix).ruleOf ≠ .ei ∧ Instr.xyThenEd .ix ≠ .reti ∧
      (∀ y, Instr.xyThenEd .ix ≠ .retn y) ∧
      (∀ u, Instr.xyThenEd .ix ≠ .im0 u ∧ Instr.xyThenEd .ix ≠ .im0Star u ∧ Instr.xyThenEd .ix ≠ .im1 u ∧
        Instr.xyThenEd .ix ≠ .im2 u) ∧
      (Instr.xyThenEd .ix).ruleOf.writesSp = false ∧ (Instr.xyThenEd .ix).ruleOf.usesPort = false ∧
      (Instr.xyThenEd .ix).ruleOf.stores = false := by decide +kernel

theorem witness_pc_advances :
    (Instr.ldAtIxdN .ix 0xFF 0).wellFormed = true ∧ (Instr.ldAtIxdN .ix 0xFF 0).ruleOf.setsPc = false ∧
      (Instr.xyFallThrough .ix (.ldRpNn .bc 0)).ruleOf.setsPc = false := by decide +kernel

/-- Both clauses: the bytes of LD R,A, and a prefix no-op, whose count is 1. -/
theorem witness_refresh_counts_fetches :
    (placed 0xFFFE [0xED, 0x4F] State.reset).halted = false ∧
      (placed 0xFFFE [0xED, 0x4F] State.reset).read 0xFFFE = 0xED ∧
      (placed 0xFFFE [0xED, 0x4F] State.reset).read 0xFFFF = 0x4F ∧
      (placed 0x10 [0xDD, 0xFD] State.reset).halted = false ∧
      (placed 0x10 [0xDD, 0xFD] State.reset).read 0x10 = 0xDD := by decide +kernel

theorem witness_halted_step : ({ busy with halted := true } : State).halted = true := rfl

/-- An instruction whose bytes wrap round the top of the address space. -/
theorem witness_step_runs_decoded : busy.halted = false ∧
    decodeBytes (busy.read busy.pc) (busy.read (busy.pc + 1)) (busy.read (busy.pc + 2)) (busy.read (busy.pc + 3)) =
      .ok (.incR (.reg .a)) := by decide +kernel

/-- Both clauses, the second at the smallest and the largest size. -/
theorem witness_construction :
    ({ Params.default with memSize := 0 } : Params).memSize = 0 ∧
      ({ Params.default with memSize := 1 } : Params).memSize ≠ 0 ∧ Params.default.memSize ≠ 0 := by decide +kernel

/-- SP at 0, 1 and 0x8000: the two stack addresses select two cells. At SP = 0 the higher one is cell 0. -/
theorem witness_push_then_pop :
    State.reset.cell (State.reset.sp - 2) ≠ State.reset.cell (State.reset.sp - 1) ∧
      (State.reset.setSp 2).cell 0 ≠ (State.reset.setSp 2).cell 1 ∧
      busy.cell (busy.sp - 2) ≠ busy.cell (busy.sp - 1) := by decide +kernel

/-- Both sides of the condition: two addresses of one cell, and two cells. -/
theorem witness_store_then_load :
    (0xFFFF : Word).toNat % State.reset.params.memSize.toNat = (0 : Word).toNat % State.reset.params.memSize.toNat ∧
      (0xFFFE : Word).toNat % State.reset.params.memSize.toNat ≠
        (0 : Word).toNat % State.reset.params.memSize.toNat := by decide +kernel

theorem witness_fall_through : Instr.halt.fallsThrough = true ∧ (Instr.jrCc .nz 0).fallsThrough = true := by
  decide +kernel

/-- Both ends of the decimal range. -/
theorem witness_decimal_adjust :
    (99 < 100 ∧ 99 < 100 ∧ busy.getReg .a = BitVec.ofNat 8 (99 / 10 * 16 + 99 % 10)) ∧
      0 < 100 ∧ State.reset.getReg .a = BitVec.ofNat 8 (0 / 10 * 16 + 0 % 10) := by decide +kernel

/-- Every condition is met in one of two states and not in the other (RET cc, CALL cc, JP cc, JR cc): F = 0 and F = FF. -/
theorem witness_conditions :
    (regs 0 0 0 0).meets .nz ∧ (regs 0 0 0 0).meets .nc ∧ (regs 0 0 0 0).meets .po ∧ (regs 0 0 0 0).meets .p ∧
      (regs 0xFF 0 0 0).meets .z ∧ (regs 0xFF 0 0 0).meets .c ∧ (regs 0xFF 0 0 0).meets .pe ∧
      (regs 0xFF 0 0 0).meets .m ∧ ¬(regs 0xFF 0 0 0).meets .nz ∧ ¬(regs 0 0 0 0).meets .z := by
  unfold State.meets
  decide +kernel

/-- DJNZ's two outcomes: B = 1 ends, B = 0 jumps. -/
theorem witness_djnz :
    ((regs 0 0x100 0 0).getReg .b).toNat = 1 ∧ ((regs 0 0 0 0).getReg .b).toNat ≠ 1 := by decide +kernel

/-- A word in memory at an address whose next one is another cell, at the last such address, and at 0xFFFF, where both
are cell 0 and the low byte is lost. -/
theorem witness_word_in_two_cells :
    State.reset.cell 0x4000 ≠ State.reset.cell 0x4001 ∧ State.reset.cell 0xFFFE ≠ State.reset.cell 0xFFFF ∧
      State.reset.cell 0xFFFF = State.reset.cell 0 := by decide +kernel

/-- A frame's memory clause: an address in a cell of its own. -/
theorem witness_frame_memory : ∀ b ∈ [(0x7FFE : Word), 0x7FFF], State.reset.cell 0x8000 ≠ State.reset.cell b :=
  List.forall_mem_cons.mpr ⟨by decide +kernel, List.forall_mem_singleton.mpr (by decide +kernel)⟩

/-- A copy register of a DDCB form. -/
theorem witness_copy : copyCode (some .h) = 4 ∧ copyCode none = 6 := by decide +kernel

/-- An iteration that does not repeat and one that does, of the block loads, compares, inputs and outputs. -/
theorem witness_block :
    decide (busy.bc.toNat ≠ 1) = false ∧ decide (State.reset.bc.toNat ≠ 1) = true ∧
      decide (State.reset.bc.toNat ≠ 1 ∧ State.reset.getReg .a ≠ State.reset.read State.reset.hl) = false ∧
      decide ((regs 0x100 0 0 0).bc.toNat ≠ 1 ∧ (regs 0x100 0 0 0).getReg .a ≠ (regs 0x100 0 0 0).read 0) = true ∧
      decide (((regs 0 0x100 0 0).getReg .b).toNat ≠ 1) = false ∧
      decide ((State.reset.getReg .b).toNat ≠ 1) = true := by decide +kernel

/-- The explicit reset's two outcomes: the default clears the memory, the other value keeps it. -/
theorem witness_explicit_reset :
    busy.explicitReset.read 5 = 0 ∧
      ({ busy with params := { Params.default with resetClearsMemory := false } } : State).explicitReset.read 5 = 1 := by
  decide +kernel

end Sys2Proof.Tests
end

section
/-! PROOFS of the decoder. Every four bytes decode, and the encoder gives them back: one lemma per table of Decode.lean,
along the fields of the operation byte. -/

namespace Sys2Proof

/-- i is a well-formed instruction whose encoding begins these bytes. -/
def Instr.Encodes (i : Instr) (bs : List Byte) : Prop := i.wellFormed = true ∧ encode i <+: bs

/-- More bytes may follow. -/
theorem Instr.Encodes.append {i : Instr} {bs : List Byte} (h : i.Encodes bs) (more : List Byte) :
    i.Encodes (bs ++ more) :=
  ⟨h.1, h.2.trans (List.prefix_append bs more)⟩

/-- A word operand, low byte first (R78). -/
theorem word_prefix (op d1 d2 : Byte) : [op, lo8 (concat d2 d1), hi8 (concat d2 d1)] <+: [op, d1, d2] := by simp

/-- The same in a four-byte encoding. -/
theorem byte_word_prefix (b0 op d1 d2 : Byte) :
    [b0, op, lo8 (concat d2 d1), hi8 (concat d2 d1)] <+: [b0, op, d1, d2] := by simp

/-! ## Selectors and fields, from the byte's side -/

@[simp] theorem code_loc8Of (y : BitVec 3) : (loc8Of y).code = y := by revert y; decide
@[simp] theorem copyCode_reg8Of (z : BitVec 3) : copyCode (reg8Of z) = z := by revert z; decide
@[simp] theorem code_pairOf (p : BitVec 2) : (pairOf p).code = p := by revert p; decide
@[simp] theorem code_condOf (y : BitVec 3) : (condOf y).code = y := by revert y; decide

/-- Every selector is the code of what it names (R84). -/
theorem exists_loc8_code (y : BitVec 3) : ∃ l : Loc8, y = l.code := ⟨loc8Of y, (code_loc8Of y).symm⟩

@[simp] theorem opZ_opByteP (x p : BitVec 2) (q : BitVec 1) (z : BitVec 3) : opZ (opByteP x p q z) = z := by
  rw [opByteP_eq, opZ_opByte]

/-- The field y is p and q joined (R76). -/
theorem exists_opByteP (x : BitVec 2) (y z : BitVec 3) : ∃ p q, opByte x y z = opByteP x p q z := by
  refine ⟨y.extractLsb' 1 2, y.extractLsb' 0 1, ?_⟩
  revert x y z; decide +kernel

/-! A field's values, for `cases … using`. -/

theorem bitVec1_cases {motive : BitVec 1 → Prop} (h0 : motive 0) (h1 : motive 1) (q : BitVec 1) : motive q := by
  have hq : q = 0 ∨ q = 1 := by revert q; decide
  rcases hq with rfl | rfl <;> assumption

theorem bitVec2_cases {motive : BitVec 2 → Prop} (h0 : motive 0) (h1 : motive 1) (h2 : motive 2) (h3 : motive 3)
    (x : BitVec 2) : motive x := by
  have hx : x = 0 ∨ x = 1 ∨ x = 2 ∨ x = 3 := by revert x; decide
  rcases hx with rfl | rfl | rfl | rfl <;> assumption

theorem bitVec3_cases {motive : BitVec 3 → Prop} (h0 : motive 0) (h1 : motive 1) (h2 : motive 2) (h3 : motive 3)
    (h4 : motive 4) (h5 : motive 5) (h6 : motive 6) (h7 : motive 7) (y : BitVec 3) : motive y := by
  have hy : y = 0 ∨ y = 1 ∨ y = 2 ∨ y = 3 ∨ y = 4 ∨ y = 5 ∨ y = 6 ∨ y = 7 := by revert y; decide
  rcases hy with rfl | rfl | rfl | rfl | rfl | rfl | rfl | rfl <;> assumption

/-! ## The unprefixed table -/

/-- The rows of class 00 whose operation is fixed by z and q, their operand being the pair p. -/
theorem decodeClass00_pair_encodes (y z : BitVec 3) (d1 d2 : Byte) (hz : z = 1 ∨ z = 3) :
    (decodeClass00 (opByte 0 y z) d1 d2).Encodes [opByte 0 y z, d1, d2] := by
  obtain ⟨p, q, he⟩ := exists_opByteP 0 y z
  rw [he]
  rcases hz with rfl | rfl <;> cases q using bitVec1_cases <;>
    simp [decodeClass00, Instr.Encodes, Instr.wellFormed, encode]

/-- Class 00, by z: where z does not fix the operation, by y or by q. -/
theorem decodeClass00_encodes (y z : BitVec 3) (d1 d2 : Byte) :
    (decodeClass00 (opByte 0 y z) d1 d2).Encodes [opByte 0 y z, d1, d2] := by
  cases z using bitVec3_cases with
  | h0 | h7 => cases y using bitVec3_cases <;> exact ⟨rfl, _, rfl⟩
  | h1 => exact decodeClass00_pair_encodes y 1 d1 d2 (.inl rfl)
  | h2 =>
    cases y using bitVec3_cases with
    | h0 | h1 | h2 | h3 => exact ⟨rfl, _, rfl⟩
    | h4 | h5 | h6 | h7 => exact ⟨rfl, word_prefix _ _ _⟩
  | h3 => exact decodeClass00_pair_encodes y 3 d1 d2 (.inr rfl)
  | h4 | h5 | h6 => simp [decodeClass00, Instr.Encodes, Instr.wellFormed, encode]

/-- Class 01, by what y and z select. -/
theorem decodeClass01_encodes (y z : BitVec 3) (d1 d2 : Byte) :
    (decodeClass01 (opByte 1 y z)).Encodes [opByte 1 y z, d1, d2] := by
  obtain ⟨l, rfl⟩ := exists_loc8_code y
  obtain ⟨m, rfl⟩ := exists_loc8_code z
  unfold decodeClass01
  rw [opY_opByte, opZ_opByte, loc8Of_code, loc8Of_code]
  cases l <;> cases m <;> exact ⟨rfl, _, rfl⟩

/-- Class 10, by y. -/
theorem decodeClass10_encodes (y z : BitVec 3) (d1 d2 : Byte) :
    (decodeClass10 (opByte 2 y z)).Encodes [opByte 2 y z, d1, d2] := by
  obtain ⟨l, rfl⟩ := exists_loc8_code z
  unfold decodeClass10
  rw [opY_opByte, opZ_opByte, loc8Of_code]
  cases y using bitVec3_cases <;> exact ⟨rfl, _, rfl⟩

/-- The bytes that are no operation byte of the unprefixed table (R83). -/
def isPrefixByte (b : Byte) : Bool := b == 0xCB || b == 0xDD || b == 0xED || b == 0xFD

theorem isPrefixByte_eq_false {b : Byte} (hcb : b ≠ 0xCB) (hdd : b ≠ 0xDD) (hed : b ≠ 0xED) (hfd : b ≠ 0xFD) :
    isPrefixByte b = false := by
  simp only [isPrefixByte, Bool.or_eq_false_iff, beq_eq_false_iff_ne]
  exact ⟨⟨⟨hcb, hdd⟩, hed⟩, hfd⟩

/-! The rows of class 11 that z alone fixes. -/

theorem decodeClass11_z0 (y : BitVec 3) (d1 d2 : Byte) :
    decodeClass11 (opByte 3 y 0) d1 d2 = .ok (.retCc (condOf y)) := by simp [decodeClass11]

theorem decodeClass11_z2 (y : BitVec 3) (d1 d2 : Byte) :
    decodeClass11 (opByte 3 y 2) d1 d2 = .ok (.jpCcNn (condOf y) (concat d2 d1)) := by simp [decodeClass11]

theorem decodeClass11_z4 (y : BitVec 3) (d1 d2 : Byte) :
    decodeClass11 (opByte 3 y 4) d1 d2 = .ok (.callCcNn (condOf y) (concat d2 d1)) := by simp [decodeClass11]

theorem decodeClass11_z7 (y : BitVec 3) (d1 d2 : Byte) :
    decodeClass11 (opByte 3 y 7) d1 d2 = .ok (.rst y) := by simp [decodeClass11]

/-- Class 11, by z, and where z does not fix the operation, by y. -/
theorem decodeClass11_encodes (y z : BitVec 3) (d1 d2 : Byte) (h : isPrefixByte (opByte 3 y z) = false) :
    ∃ i, decodeClass11 (opByte 3 y z) d1 d2 = .ok i ∧ i.Encodes [opByte 3 y z, d1, d2] := by
  cases z using bitVec3_cases with
  | h0 => exact ⟨_, decodeClass11_z0 y d1 d2, by simp [Instr.Encodes, Instr.wellFormed, encode]⟩
  | h1 | h6 => cases y using bitVec3_cases <;> exact ⟨_, rfl, rfl, _, rfl⟩
  | h2 => exact ⟨_, decodeClass11_z2 y d1 d2, by simp [Instr.Encodes, Instr.wellFormed, encode]⟩
  | h3 =>
    cases y using bitVec3_cases with
    | h0 => exact ⟨_, rfl, rfl, word_prefix _ _ _⟩
    | h1 => cases h
    | _ => exact ⟨_, rfl, rfl, _, rfl⟩
  | h4 => exact ⟨_, decodeClass11_z4 y d1 d2, by simp [Instr.Encodes, Instr.wellFormed, encode]⟩
  | h5 =>
    cases y using bitVec3_cases with
    | h1 => exact ⟨_, rfl, rfl, word_prefix _ _ _⟩
    | h3 | h5 | h7 => cases h
    | _ => exact ⟨_, rfl, rfl, _, rfl⟩
  | h7 => exact ⟨_, decodeClass11_z7 y d1 d2, by simp [Instr.Encodes, Instr.wellFormed, encode]⟩

/-- The unprefixed table, by class: every operation byte but CB, DD, ED and FD. -/
theorem decodeMain_encodes (op d1 d2 : Byte) (h : isPrefixByte op = false) :
    ∃ i, decodeMain op d1 d2 = .ok i ∧ i.Encodes [op, d1, d2] := by
  rw [← opByte_fields op] at h ⊢
  generalize opX op = x, opY op = y, opZ op = z at h ⊢
  unfold decodeMain
  rw [opX_opByte]
  cases x using bitVec2_cases with
  | h0 => exact ⟨_, rfl, decodeClass00_encodes y z d1 d2⟩
  | h1 => exact ⟨_, rfl, decodeClass01_encodes y z d1 d2⟩
  | h2 => exact ⟨_, rfl, decodeClass10_encodes y z d1 d2⟩
  | h3 => exact decodeClass11_encodes y z d1 d2 h

/-! ## The CB, ED, DDCB and FDCB tables -/

/-- The CB table, by class. -/
theorem decodeCb_encodes (op d1 d2 : Byte) : (decodeCb op).Encodes [0xCB, op, d1, d2] := by
  rw [← opByte_fields op]
  generalize opX op = x, opY op = y, opZ op = z
  obtain ⟨l, rfl⟩ := exists_loc8_code z
  unfold decodeCb
  rw [opX_opByte, opY_opByte, opZ_opByte, loc8Of_code]
  cases x using bitVec2_cases with
  | h0 => cases y using bitVec3_cases <;> exact ⟨rfl, _, rfl⟩
  | h1 => cases l <;> exact ⟨rfl, _, rfl⟩
  | h2 | h3 => exact ⟨rfl, _, rfl⟩

/-- The rows of the ED table, x = 1, whose operation is fixed by z and q, an operand being the pair p. -/
theorem decodeEd1_pair_encodes (y z : BitVec 3) (lo hi : Byte) (hz : z = 2 ∨ z = 3) :
    (decodeEd1 (opByte 1 y z) lo hi).Encodes [0xED, opByte 1 y z, lo, hi] := by
  obtain ⟨p, q, he⟩ := exists_opByteP 1 y z
  rw [he]
  rcases hz with rfl | rfl <;> cases q using bitVec1_cases <;>
    simp [decodeEd1, Instr.Encodes, Instr.wellFormed, encode]

/-- The ED table, x = 1, by z. -/
theorem decodeEd1_encodes (y z : BitVec 3) (lo hi : Byte) :
    (decodeEd1 (opByte 1 y z) lo hi).Encodes [0xED, opByte 1 y z, lo, hi] := by
  cases z using bitVec3_cases with
  | h0 | h1 =>
    obtain ⟨l, rfl⟩ := exists_loc8_code y
    simp only [decodeEd1, opZ_opByte, opY_opByte, loc8Of_code]
    cases l <;> exact ⟨rfl, _, rfl⟩
  | h2 => exact decodeEd1_pair_encodes y 2 lo hi (.inl rfl)
  | h3 => exact decodeEd1_pair_encodes y 3 lo hi (.inr rfl)
  | h4 => simp [decodeEd1, Instr.Encodes, Instr.wellFormed, encode]
  | h5 =>
    by_cases hy : y = 1#3
    · subst hy; exact ⟨rfl, _, rfl⟩
    · simp [decodeEd1, hy, Instr.Encodes, Instr.wellFormed, encode]
  | h6 | h7 => cases y using bitVec3_cases <;> exact ⟨rfl, _, rfl⟩

/-- The ED table, x = 2: 64 opcodes, none with an operand byte. -/
theorem decodeEd2_encodes (y z : BitVec 3) :
    (decodeEd2 (opByte 2 y z)).wellFormed = true ∧ encode (decodeEd2 (opByte 2 y z)) = [0xED, opByte 2 y z] := by
  revert y z; decide +kernel

/-- The six bits kept of an undefined ED opcode, x = 0 and x = 3. -/
theorem append_lowSix (x : BitVec 2) (y z : BitVec 3) : x ++ (opByte x y z).extractLsb' 0 6 = opByte x y z := by
  revert x y z; decide +kernel

/-- The ED table, by class. -/
theorem decodeEd_encodes (op lo hi : Byte) : (decodeEd op lo hi).Encodes [0xED, op, lo, hi] := by
  rw [← opByte_fields op]
  generalize opX op = x, opY op = y, opZ op = z
  unfold decodeEd
  rw [opX_opByte]
  cases x using bitVec2_cases with
  | h0 => simp [Instr.Encodes, Instr.wellFormed, encode, append_lowSix 0#2]
  | h1 => exact decodeEd1_encodes y z lo hi
  | h2 =>
    obtain ⟨hw, he⟩ := decodeEd2_encodes y z
    exact ⟨hw, he ▸ ⟨_, rfl⟩⟩
  | h3 => simp [Instr.Encodes, Instr.wellFormed, encode, append_lowSix 3#2]

/-- The DDCB and FDCB table, by class. -/
theorem decodeXcb_encodes (x : Idx) (d op : Byte) : (decodeXcb x d op).Encodes [x.byte, 0xCB, d, op] := by
  rw [← opByte_fields op]
  generalize opX op = c, opY op = y, opZ op = z
  cases c using bitVec2_cases with
  | h0 => cases y using bitVec3_cases <;> simp [decodeXcb, Instr.Encodes, Instr.wellFormed, encode]
  | h1 | h2 | h3 => simp [decodeXcb, Instr.Encodes, Instr.wellFormed, encode]

/-! ## Selectors behind a DD or FD byte -/

@[simp] theorem loc8Of_regCode (r : Reg8) : loc8Of r.code = .reg r := loc8Of_code (.reg r)

/-- A register that is neither H nor L stays (R320). -/
theorem xLocOf_regCode {r : Reg8} (h : r.isHL = false) : xLocOf r.code = .plain r := by
  cases r with
  | h | l => cases h
  | _ => rfl

@[simp] theorem xLocOf_halfCode (w : Half) : xLocOf w.code = .half w := by cases w <;> rfl

/-- The register whose selector a half takes over (R320). -/
def Half.reg : Half → Reg8
  | .high => .h
  | .low => .l

@[simp] theorem loc8Of_halfCode (w : Half) : loc8Of w.code = .reg w.reg := by cases w <;> rfl

/-- A selector is a register that stays, a half, or (IX+d) (R320). -/
theorem selector_cases (y : BitVec 3) :
    (∃ r : Reg8, r.isHL = false ∧ y = r.code) ∨ (∃ w : Half, y = w.code) ∨ y = 6 := by
  obtain ⟨l, rfl⟩ := exists_loc8_code y
  cases l with
  | atHL => exact .inr (.inr rfl)
  | reg r =>
    by_cases hr : r.isHL = false
    · exact .inl ⟨r, hr, rfl⟩
    · cases r with
      | h => exact .inr (.inl ⟨.high, rfl⟩)
      | l => exact .inr (.inl ⟨.low, rfl⟩)
      | _ => exact absurd rfl hr

theorem not_namesHL {r : Reg8} (h : r.isHL = false) : (!(Loc8.reg r).namesHL) = true := by simp [Loc8.namesHL, h]

/-! ## The DD and FD table -/

/-- What is right for an operation byte behind DD or FD: an indexed meaning encodes to the bytes, and where there is
none the unprefixed meaning `main` is left unchanged (R92, R98). -/
def Redirects (x : Idx) (op b2 b3 : Byte) (main : Instr) : Option Instr → Prop
  | some i => i.Encodes [x.byte, op, b2, b3]
  | none => main.fallsThrough = true

/-- The rows of class 00 with a byte operand, by what y selects. -/
theorem decodeIndexed00_operand_redirects (x : Idx) (y z : BitVec 3) (b2 b3 : Byte) (hz : z = 4 ∨ z = 5 ∨ z = 6) :
    Redirects x (opByte 0 y z) b2 b3 (decodeClass00 (opByte 0 y z) b2 b3)
      (decodeIndexed00 x (opByte 0 y z) b2 b3) := by
  rcases selector_cases y with ⟨r, hr, rfl⟩ | ⟨w, rfl⟩ | rfl <;> rcases hz with rfl | rfl | rfl
  iterate 3
    simp only [decodeIndexed00, decodeClass00, opY_opByte, opZ_opByte, xLocOf_regCode hr, loc8Of_regCode]
    exact not_namesHL hr
  iterate 3 simp [decodeIndexed00, Redirects, Instr.Encodes, Instr.wellFormed, encode]
  all_goals exact ⟨rfl, _, rfl⟩

/-- Class 00, by z, and where z does not fix the operation, by y. -/
theorem decodeIndexed00_redirects (x : Idx) (y z : BitVec 3) (b2 b3 : Byte) :
    Redirects x (opByte 0 y z) b2 b3 (decodeClass00 (opByte 0 y z) b2 b3)
      (decodeIndexed00 x (opByte 0 y z) b2 b3) := by
  cases z using bitVec3_cases with
  | h0 | h7 => cases y using bitVec3_cases <;> exact rfl
  | h1 =>
    cases y using bitVec3_cases with
    | h1 | h3 | h5 | h7 => exact ⟨rfl, _, rfl⟩
    | h4 => exact ⟨rfl, byte_word_prefix _ _ _ _⟩
    | _ => exact rfl
  | h2 =>
    cases y using bitVec3_cases with
    | h4 | h5 => exact ⟨rfl, byte_word_prefix _ _ _ _⟩
    | _ => exact rfl
  | h3 =>
    cases y using bitVec3_cases with
    | h4 | h5 => exact ⟨rfl, _, rfl⟩
    | _ => exact rfl
  | h4 => exact decodeIndexed00_operand_redirects x y 4 b2 b3 (.inl rfl)
  | h5 => exact decodeIndexed00_operand_redirects x y 5 b2 b3 (.inr (.inl rfl))
  | h6 => exact decodeIndexed00_operand_redirects x y 6 b2 b3 (.inr (.inr rfl))

/-- Class 01, by what y and z select. -/
theorem decodeIndexed01_redirects (x : Idx) (y z : BitVec 3) (b2 b3 : Byte) :
    Redirects x (opByte 1 y z) b2 b3 (decodeClass01 (opByte 1 y z)) (decodeIndexed01 x (opByte 1 y z) b2) := by
  unfold decodeIndexed01 decodeClass01
  rw [opY_opByte, opZ_opByte]
  rcases selector_cases y with ⟨r, hr, rfl⟩ | ⟨w, rfl⟩ | rfl <;>
    rcases selector_cases z with ⟨q, hq, rfl⟩ | ⟨v, rfl⟩ | rfl
  · simp only [loc8Of_regCode, xLocOf_regCode hr, xLocOf_regCode hq]
    show (!r.isHL && !q.isHL) = true
    simp [hr, hq]
  · simp [xLocOf_regCode hr, Redirects, Instr.Encodes, Instr.wellFormed, hr, encode]
  · rw [loc8Of_regCode]; exact ⟨rfl, _, rfl⟩
  · simp [xLocOf_regCode hq, Redirects, Instr.Encodes, Instr.wellFormed, hq, encode]
  · simp [Redirects, Instr.Encodes, Instr.wellFormed, encode]
  · cases w <;> exact ⟨rfl, _, rfl⟩
  · rw [loc8Of_regCode]; exact ⟨rfl, _, rfl⟩
  · cases v <;> exact ⟨rfl, _, rfl⟩
  · exact rfl

/-- Class 10, by what z selects and by y. -/
theorem decodeIndexed10_redirects (x : Idx) (y z : BitVec 3) (b2 b3 : Byte) :
    Redirects x (opByte 2 y z) b2 b3 (decodeClass10 (opByte 2 y z)) (decodeIndexed10 x (opByte 2 y z) b2) := by
  unfold decodeIndexed10 decodeClass10
  rw [opY_opByte, opZ_opByte]
  rcases selector_cases z with ⟨r, hr, rfl⟩ | ⟨w, rfl⟩ | rfl
  · rw [xLocOf_regCode hr, loc8Of_regCode]
    cases y using bitVec3_cases <;> exact not_namesHL hr
  · rw [xLocOf_halfCode]
    cases y using bitVec3_cases <;> exact ⟨rfl, _, rfl⟩
  · cases y using bitVec3_cases <;> exact ⟨rfl, _, rfl⟩

/-- What class 11 decodes to is left unchanged by DD and FD, but for the five redirected bytes (R92). -/
theorem decodeClass11_fallsThrough (y z : BitVec 3) (d1 d2 : Byte) {i : Instr}
    (hi : decodeClass11 (opByte 3 y z) d1 d2 = .ok i) (hpop : opByte 3 y z ≠ 0xE1) (hex : opByte 3 y z ≠ 0xE3)
    (hpush : opByte 3 y z ≠ 0xE5) (hjp : opByte 3 y z ≠ 0xE9) (hsp : opByte 3 y z ≠ 0xF9) :
    i.fallsThrough = true := by
  cases z using bitVec3_cases with
  | h0 => rw [decodeClass11_z0] at hi; cases hi; rfl
  | h1 =>
    cases y using bitVec3_cases with
    | h4 => exact absurd rfl hpop
    | h5 => exact absurd rfl hjp
    | h7 => exact absurd rfl hsp
    | _ => cases hi; rfl
  | h2 => rw [decodeClass11_z2] at hi; cases hi; rfl
  | h3 =>
    cases y using bitVec3_cases with
    | h1 => cases hi
    | h4 => exact absurd rfl hex
    | _ => cases hi; rfl
  | h4 => rw [decodeClass11_z4] at hi; cases hi; rfl
  | h5 =>
    cases y using bitVec3_cases with
    | h3 | h5 | h7 => cases hi
    | h4 => exact absurd rfl hpush
    | _ => cases hi; rfl
  | h6 => cases y using bitVec3_cases <;> cases hi <;> rfl
  | h7 => rw [decodeClass11_z7] at hi; cases hi; rfl

/-- Class 11, by the five redirected bytes. -/
theorem decodeIndexed11_redirects (x : Idx) (y z : BitVec 3) (b2 b3 : Byte) {i : Instr}
    (hi : decodeClass11 (opByte 3 y z) b2 b3 = .ok i) :
    Redirects x (opByte 3 y z) b2 b3 i (decodeIndexed11 x (opByte 3 y z)) := by
  unfold decodeIndexed11
  split_ifs with hpop hex hpush hjp hsp
  · exact ⟨rfl, _, by rw [hpop]; rfl⟩
  · exact ⟨rfl, _, by rw [hex]; rfl⟩
  · exact ⟨rfl, _, by rw [hpush]; rfl⟩
  · exact ⟨rfl, _, by rw [hjp]; rfl⟩
  · exact ⟨rfl, _, by rw [hsp]; rfl⟩
  · exact decodeClass11_fallsThrough y z b2 b3 hi hpop hex hpush hjp hsp

/-- The DD and FD table, by class. -/
theorem decodeIndexed_redirects (x : Idx) (op b2 b3 : Byte) {i : Instr} (hi : decodeMain op b2 b3 = .ok i) :
    Redirects x op b2 b3 i (decodeIndexed x op b2 b3) := by
  rw [← opByte_fields op] at hi ⊢
  generalize opX op = c, opY op = y, opZ op = z at hi ⊢
  unfold decodeMain at hi
  unfold decodeIndexed
  rw [opX_opByte] at hi ⊢
  cases c using bitVec2_cases with
  | h0 => cases hi; exact decodeIndexed00_redirects x y z b2 b3
  | h1 => cases hi; exact decodeIndexed01_redirects x y z b2 b3
  | h2 => cases hi; exact decodeIndexed10_redirects x y z b2 b3
  | h3 => exact decodeIndexed11_redirects x y z b2 b3 hi

/-! ## All bytes -/

/-- What follows a DD or FD byte (R83): a second one or ED, which makes the first a no-op, the DDCB table, an indexed
instruction or a fall-through. -/
theorem decodeXy_encodes (x : Idx) (b1 b2 b3 : Byte) :
    ∃ i, decodeXy x b1 b2 b3 = .ok i ∧ i.Encodes [x.byte, b1, b2, b3] := by
  unfold decodeXy
  split_ifs with hdd hfd hed hcb
  · exact ⟨_, rfl, rfl, [b2, b3], by rw [hdd]; rfl⟩
  · exact ⟨_, rfl, rfl, [b2, b3], by rw [hfd]; rfl⟩
  · exact ⟨_, rfl, rfl, [b2, b3], by rw [hed]; rfl⟩
  · exact ⟨_, rfl, hcb ▸ decodeXcb_encodes x b2 b3⟩
  · obtain ⟨inner, hm, hw, he⟩ := decodeMain_encodes b1 b2 b3 (isPrefixByte_eq_false hcb hdd hed hfd)
    have hr := decodeIndexed_redirects x b1 b2 b3 hm
    cases hx : decodeIndexed x b1 b2 b3 with
    | some i =>
      rw [hx] at hr
      exact ⟨i, rfl, hr⟩
    | none =>
      rw [hx] at hr
      have hf : inner.fallsThrough = true := hr
      exact ⟨.xyFallThrough x inner, by simp [hm], by simp [Instr.wellFormed, hw, hf],
        List.cons_prefix_cons.2 ⟨rfl, he⟩⟩

/-- Settles O3: the first byte selects the table, and each table's instructions encode to the bytes they were decoded
from. -/
theorem everyFourBytesDecode : Obligations.EveryFourBytesDecode := by
  intro b0 b1 b2 b3
  unfold decodeBytes
  split_ifs with hcb hed hdd hfd
  · exact ⟨_, rfl, hcb ▸ decodeCb_encodes b1 b2 b3⟩
  · exact ⟨_, rfl, hed ▸ decodeEd_encodes b1 b2 b3⟩
  · exact hdd ▸ decodeXy_encodes .ix b1 b2 b3
  · exact hfd ▸ decodeXy_encodes .iy b1 b2 b3
  · obtain ⟨i, hi, he⟩ := decodeMain_encodes b0 b1 b2 (isPrefixByte_eq_false hcb hdd hed hfd)
    exact ⟨i, hi, he.append [b3]⟩

end Sys2Proof
end

section
/-! PROOFS of what every step does and keeps, of the state at reset, and of SCF, CCF and the port outputs. -/

namespace Sys2Proof.Machine

/-! ## What a step can do -/

/-- The bytes at PC are a well-formed instruction. -/
theorem State.fetch_wellFormed (s : State) : ∃ i, s.fetch = .ok i ∧ i.wellFormed = true := by
  obtain ⟨i, hi, hw, -⟩ :=
    everyFourBytesDecode (s.read s.pc) (s.read (s.pc + 1)) (s.read (s.pc + 2)) (s.read (s.pc + 3))
  exact ⟨i, hi, hw⟩

/-- Every step answers a next state built from the start state by base updates: none when halted, else R counted and the
instruction's meaning. -/
theorem step_answers (s : State) : Answers s (step s) := by
  unfold step
  split
  · exact ⟨s, rfl, .refl⟩
  · obtain ⟨i, hi, hw⟩ := s.fetch_wellFormed
    obtain ⟨t, ht, hb⟩ := exec_answers i (s.fetched i) hw
    have hf : Built s (s.fetched i) := Built.refl.setRefresh _
    exact ⟨t, by rw [hi]; exact ht, hf.trans hb⟩

/-- Settles O4: the answer is built by base updates, and each of them keeps the invariant. -/
theorem stepKeepsInv : Obligations.StepKeepsInv := by
  intro s t hs hstep
  obtain ⟨u, hu, hb⟩ := step_answers s
  obtain rfl : u = t := Host.Outcome.next.inj (hu.symm.trans hstep)
  exact hb.inv hs

/-- Settles O1: what a step answers is a next state. -/
theorem everyStepAnswersNext : Obligations.EveryStepAnswersNext := by
  intro s
  obtain ⟨t, ht, -⟩ := step_answers s
  exact ⟨t, ht⟩

/-- Settles O7: no base update writes ALT or a parameter. -/
theorem stepKeepsAltAndParams : Obligations.StepKeepsAltAndParams := by
  intro s
  obtain ⟨t, ht, hb⟩ := step_answers s
  exact ⟨t, ht, hb.alt_params⟩

/-! ## SCF and CCF -/

/-- A bit that SCF and CCF take Y or X from (R133): of A, and with SCF_CCF_XY = A_OR_F also of F. -/
theorem scfCcfByte_getLsbD (src : XySource) (a f : Byte) (k : Nat) :
    (scfCcfByte src a f).getLsbD k = (a.getLsbD k || (decide (src = .aOrF) && f.getLsbD k)) := by
  cases src <;> simp [scfCcfByte]

/-- What SCF and CCF assign (R133, R134), with the new H and C. -/
def State.carryFlags (s : State) (h c : Bool) : FlagSet :=
  { yx (scfCcfByte s.params.scfCcfXY (s.getReg .a) s.getF) with h := some h, n := some false, c := some c }

theorem execScf_eq (s : State) : execScf s = .next ((s.assign (s.carryFlags false true)).advance 1) := rfl

theorem execCcf_eq (s : State) :
    execCcf s = .next ((s.assign (s.carryFlags (s.flag .c) (!s.flag .c))).advance 1) := rfl

/-- S, Z and PV are not assigned, nor is anything but F and PC written. -/
theorem State.frame_carryFlags (s : State) (h c : Bool) :
    Touch.Frame { flags := [.y, .h, .x, .n, .c] } s ((s.assign (s.carryFlags h c)).advance 1) := by
  refine ((Touch.Frame.refl _ s).assign _ (FlagSet.mem_of_isSome fun g hg => ?_)).advance 1
  cases g with
  | s | z | pv => rfl
  | _ => simp at hg

theorem State.carryFlags_spec (s : State) (h c : Bool) :
    let t := (s.assign (s.carryFlags h c)).advance 1
    t.flag .c = c ∧ t.flag .h = h ∧ t.flag .n = false ∧
      t.flag .y = ((s.getReg .a).getLsbD 5 || (decide (s.params.scfCcfXY = .aOrF) && s.flag .y)) ∧
      t.flag .x = ((s.getReg .a).getLsbD 3 || (decide (s.params.scfCcfXY = .aOrF) && s.flag .x)) ∧
      t.pc = s.pc + 1 ∧ Touch.Frame { flags := [.y, .h, .x, .n, .c] } s t := by
  simp only [State.flag_advance, State.flag_assign]
  exact ⟨rfl, rfl, rfl, scfCcfByte_getLsbD _ _ _ 5, scfCcfByte_getLsbD _ _ _ 3, by simp, s.frame_carryFlags h c⟩

/-- Settles O30: SCF sets C and clears H, CCF complements C and moves the old C to H. -/
theorem setAndComplementCarry : Obligations.SetAndComplementCarry := fun s =>
  ⟨⟨_, execScf_eq s, s.carryFlags_spec false true⟩, _, execCcf_eq s, s.carryFlags_spec (s.flag .c) (!s.flag .c)⟩

/-! ## Port outputs -/

/-- A port write in an instruction of n bytes: one output event, nothing else (R56). -/
theorem State.portWrite_spec (s : State) (port : Word) (v : Byte) (n : Word) :
    ((s.portWrite port v).advance n).events = .output port v :: s.events ∧
      Controlled s [.events] (s.pc + n) ((s.portWrite port v).advance n) :=
  ⟨rfl, rfl, ((Touch.Frame.refl _ s).record (List.mem_singleton.2 rfl) _).advance n⟩

/-- Settles O54: each is a port write and the PC update. -/
theorem portOutputs : Obligations.PortOutputs := by
  intro s
  exact ⟨fun _ => ⟨_, rfl, s.portWrite_spec _ _ 2⟩, fun _ => ⟨_, rfl, s.portWrite_spec _ _ 2⟩,
    _, rfl, s.portWrite_spec _ _ 2⟩

/-! ## Construction and reset -/

/-- The state a construction answers. -/
theorem construct_of_memSize_ne {p : Params} (h : p.memSize ≠ 0) : construct p = .next (State.fresh p) := if_neg h

theorem construct_of_memSize_eq {p : Params} (h : p.memSize = 0) : construct p = .refused .invalidConfiguration :=
  if_pos h

@[simp] theorem Bank.get_zero (r : Reg8) : Bank.zero.get r = 0 := by cases r <;> rfl

/-- A fresh state has no listed cell. -/
@[simp] theorem State.read_fresh (p : Params) (a : Word) : (State.fresh p).read a = 0 := Memory.get_nil _

theorem State.fresh_inv {p : Params} (h : p.memSize ≠ 0) : (State.fresh p).Inv where
  size := h
  canonical := Memory.wf_nil
  cells := by simp [State.fresh]

/-- Settles O5: a construction answers only with a MEM_SIZE other than 0, and then a fresh state. -/
theorem resetHasInv : Obligations.ResetHasInv := by
  refine ⟨State.fresh_inv (by decide), fun p t ht => ?_⟩
  by_cases h : p.memSize = 0
  · rw [construct_of_memSize_eq h] at ht; cases ht
  · rw [construct_of_memSize_ne h] at ht; cases ht
    exact State.fresh_inv h

/-- Settles O15. -/
theorem resetValues : Obligations.ResetValues :=
  ⟨fun r => ⟨Bank.get_zero r, Bank.get_zero r⟩, rfl, rfl, rfl, rfl, rfl, rfl, rfl, rfl, rfl, rfl, rfl, rfl, rfl,
    State.read_fresh _, rfl⟩

/-- Settles O16. -/
theorem constructionRefusesZeroSize : Obligations.ConstructionRefusesZeroSize := fun p =>
  ⟨construct_of_memSize_eq, fun h => ⟨State.fresh p, construct_of_memSize_ne h, rfl, rfl, State.read_fresh p⟩⟩

/-- The memory after an explicit reset (R430): cleared or kept, as RESET_CLEARS_MEMORY says. -/
theorem State.read_explicitReset (s : State) (a : Word) :
    s.explicitReset.read a = if s.params.resetClearsMemory then 0 else s.read a := by
  show Memory.get (if s.params.resetClearsMemory then [] else s.mem) (s.cell a) = _
  split <;> rfl

/-- Settles O17: beside the memory, every field of the explicit reset is the fresh state's. -/
theorem explicitReset : Obligations.ExplicitReset := fun s =>
  ⟨fun r => ⟨Bank.get_zero r, Bank.get_zero r⟩, rfl, rfl, rfl, rfl, rfl, rfl, rfl, rfl, rfl, rfl, rfl, rfl, rfl, rfl,
    s.read_explicitReset⟩

end Sys2Proof.Machine
end

section
/-! PROOFS about whole steps: the rule that runs past a DD or FD byte, the exchange of the banks, and which instruction
writes which cell. -/

namespace Sys2Proof

/-! ## The rule that runs -/

/-- An unprefixed row is its own rule. -/
theorem Instr.ruleOf_of_isMain {i : Instr} (h : i.isMain = true) : i.ruleOf = i := by
  cases i
  case xyFallThrough => cases h
  all_goals rfl

/-- A well-formed instruction is its own rule or a DD or FD byte before an unprefixed row (R98). -/
theorem Instr.ruleOf_cases {i : Instr} (hw : i.wellFormed = true) :
    i.ruleOf = i ∨ ∃ x inner, i = .xyFallThrough x inner ∧ inner.isMain = true := by
  cases i
  case xyFallThrough x inner =>
    rw [Instr.wellFormed, Bool.and_eq_true] at hw
    exact .inr ⟨x, inner, rfl, Machine.isMain_of_fallsThrough inner hw.1⟩
  all_goals exact .inl rfl

theorem Instr.ruleOf_ruleOf {i : Instr} (hw : i.wellFormed = true) : i.ruleOf.ruleOf = i.ruleOf := by
  obtain h | ⟨x, inner, rfl, hm⟩ := Instr.ruleOf_cases hw
  · rw [h, h]
  · exact Instr.ruleOf_of_isMain hm

/-- A rule that is no unprefixed row runs only for its own instruction. -/
theorem Instr.ruleOf_ne {i j : Instr} (hw : i.wellFormed = true) (hj : j.isMain = false) (h : i ≠ j) :
    i.ruleOf ≠ j := by
  rintro rfl
  obtain hi | ⟨x, inner, rfl, hm⟩ := Instr.ruleOf_cases hw
  · exact h hi.symm
  · exact absurd hm (by simpa [Instr.ruleOf] using hj)

namespace Machine

theorem execMain_eq_exec {i : Instr} (h : i.isMain = true) (s : State) : execMain i s = exec i s := by
  cases i <;> first | rfl | exact absurd h Bool.false_ne_true

@[simp] theorem State.advance_zero (s : State) : s.advance 0 = s := by simp [State.advance, State.jump]

/-- A well-formed instruction does what its rule does, past a DD or FD byte if it has one to skip (R98, R359). -/
theorem exec_eq_ruleOf {i : Instr} (hw : i.wellFormed = true) :
    ∃ n, ∀ s, exec i s = exec i.ruleOf (s.advance n) := by
  obtain h | ⟨x, inner, rfl, hm⟩ := Instr.ruleOf_cases hw
  · exact ⟨0, fun s => by rw [h, State.advance_zero]⟩
  · exact ⟨1, fun s => execMain_eq_exec hm _⟩

/-! ## Exchanging the banks -/

/-- Each rule is a chain of operations that commute with the exchange (Laws/Swap.lean). -/
theorem exec_swapBanks_of_rule {i : Instr} (h : i.ruleOf = i) (s : State) :
    exec i s.swapBanks = swapAnswer (exec i s) := by
  cases i
  case xyFallThrough => cases h
  case im0Star => rfl
  all_goals
    refine congrArg Host.Outcome.next (?_ : _ = State.swapBanks _)
    simp

theorem exec_swapBanks {i : Instr} (hw : i.wellFormed = true) (s : State) :
    exec i s.swapBanks = swapAnswer (exec i s) := by
  obtain ⟨n, hn⟩ := exec_eq_ruleOf hw
  rw [hn, hn, State.swapBanks_advance, exec_swapBanks_of_rule (Instr.ruleOf_ruleOf hw)]

/-- A step of a running core, by what its bytes decode to (R83). -/
theorem step_of_fetch {s : State} {i : Instr} (hh : s.halted = false) (hf : s.fetch = .ok i) :
    step s = exec i (s.fetched i) := by
  simp [step, hh, hf]

theorem step_of_halted {s : State} (hh : s.halted = true) : step s = .next s := if_pos hh

/-- Settles O6: the exchange keeps HALTED and the bytes at PC, and it commutes with the instruction they decode to. -/
theorem stepCommutesWithBankSwap : Obligations.StepCommutesWithBankSwap := by
  intro s
  cases hh : s.halted with
  | true => rw [step_of_halted hh, step_of_halted (s := s.swapBanks) hh]; rfl
  | false =>
    obtain ⟨i, hi, hw⟩ := s.fetch_wellFormed
    rw [step_of_fetch hh hi, step_of_fetch (s := s.swapBanks) hh (s.fetch_swapBanks.trans hi), ← exec_swapBanks hw,
      State.fetched, State.fetched, State.swapBanks_bumpR]

/-! ## The cells with named writers -/

/-- The cells that O8 and O9 speak of (R24, R30 to R35, R39, R56). -/
structure Control where
  other : Bank
  i : Byte
  r : Byte
  halted : Bool
  iff1 : Bool
  iff2 : Bool
  im : IntMode
  sp : Word
  events : List IoEvent
  mem : List Host.Cell

def State.control (s : State) : Control :=
  { other := s.other, i := s.i, r := s.r, halted := s.halted, iff1 := s.iff1, iff2 := s.iff2, im := s.im, sp := s.sp,
    events := s.events, mem := s.mem }

/-- From c to d each cell is kept unless the rule j is one of its named writers. -/
structure Control.KeptBy (j : Instr) (c d : Control) : Prop where
  other : j ≠ .exAfAf → j ≠ .exx → d.other = c.other
  i : j ≠ .ldIA → d.i = c.i
  r : j ≠ .ldRefreshA → d.r = c.r
  halted : j ≠ .halt → d.halted = c.halted
  iff1 : j ≠ .di → j ≠ .ei → j ≠ .reti → (∀ y, j ≠ .retn y) → d.iff1 = c.iff1
  iff2 : j ≠ .di → j ≠ .ei → d.iff2 = c.iff2
  im : (∀ u, j ≠ .im0 u ∧ j ≠ .im0Star u ∧ j ≠ .im1 u ∧ j ≠ .im2 u) → d.im = c.im
  sp : j.writesSp = false → d.sp = c.sp
  events : j.usesPort = false → d.events = c.events
  mem : j.stores = false → d.mem = c.mem

/-! ### What each base update does to them -/

@[simp] theorem State.control_setView (s : State) (k : Bank) : (s.setView k).control = s.control := by
  simp [State.control]
@[simp] theorem State.control_jump (s : State) (v : Word) : (s.jump v).control = s.control := rfl
@[simp] theorem State.control_drew (s : State) : s.drew.control = s.control := rfl
@[simp] theorem State.control_setIdx (s : State) (x : Idx) (v : Word) : (s.setIdx x v).control = s.control := by
  simp [State.control]
@[simp] theorem State.control_setOther (s : State) (k : Bank) :
    (s.setOther k).control = { s.control with other := k } := by
  simp [State.control]
@[simp] theorem State.control_setSp (s : State) (v : Word) : (s.setSp v).control = { s.control with sp := v } := rfl
@[simp] theorem State.control_setI (s : State) (v : Byte) : (s.setI v).control = { s.control with i := v } := rfl
@[simp] theorem State.control_setRefresh (s : State) (v : Byte) :
    (s.setRefresh v).control = { s.control with r := v } := rfl
@[simp] theorem State.control_setIff1 (s : State) (v : Bool) :
    (s.setIff1 v).control = { s.control with iff1 := v } := rfl
@[simp] theorem State.control_setIff2 (s : State) (v : Bool) :
    (s.setIff2 v).control = { s.control with iff2 := v } := rfl
@[simp] theorem State.control_setIm (s : State) (m : IntMode) :
    (s.setIm m).control = { s.control with im := m } := rfl
@[simp] theorem State.control_setHalted (s : State) (v : Bool) :
    (s.setHalted v).control = { s.control with halted := v } := rfl
@[simp] theorem State.control_record (s : State) (e : IoEvent) :
    (s.record e).control = { s.control with events := e :: s.events } := rfl
@[simp] theorem State.control_write (s : State) (a : Word) (v : Byte) :
    (s.write a v).control = { s.control with mem := Memory.set s.mem (s.cell a) v } := rfl
theorem State.control_ite (p : Prop) [Decidable p] (s t : State) :
    (if p then s else t).control = if p then s.control else t.control := apply_ite _ _ _ _

/-! ### What each shared operation does to them -/

section
variable (s : State)

@[simp] theorem State.control_setReg (r : Reg8) (v : Byte) : (s.setReg r v).control = s.control := s.control_setView _
@[simp] theorem State.control_setF (v : Byte) : (s.setF v).control = s.control := s.control_setView _
@[simp] theorem State.control_setBc (v : Word) : (s.setBc v).control = s.control := s.control_setView _
@[simp] theorem State.control_setDe (v : Word) : (s.setDe v).control = s.control := s.control_setView _
@[simp] theorem State.control_setHl (v : Word) : (s.setHl v).control = s.control := s.control_setView _
@[simp] theorem State.control_setAf (v : Word) : (s.setAf v).control = s.control := s.control_setView _
@[simp] theorem State.control_assign (fl : FlagSet) : (s.assign fl).control = s.control := s.control_setF _
@[simp] theorem State.control_setA (v : Byte) : (s.setA v).control = s.control := s.control_setReg _ _
@[simp] theorem State.control_advance (n : Word) : (s.advance n).control = s.control := rfl
@[simp] theorem State.control_setHalf (x : Idx) (w : Half) (v : Byte) : (s.setHalf x w v).control = s.control := by
  cases w <;> exact s.control_setIdx _ _
@[simp] theorem State.control_copyTo (c : Option Reg8) (v : Byte) : (s.copyTo c v).control = s.control := by
  cases c with
  | none => rfl
  | some r => exact s.control_setReg r v
@[simp] theorem State.control_toA (p : Byte × FlagSet) : (s.toA p).control = s.control := by simp [State.toA]
@[simp] theorem State.control_toHl (p : Word × FlagSet) : (s.toHl p).control = s.control := by simp [State.toHl]
@[simp] theorem State.control_addA (v : Byte) : (s.addA v).control = s.control := s.control_toA _
@[simp] theorem State.control_adcA (v : Byte) : (s.adcA v).control = s.control := s.control_toA _
@[simp] theorem State.control_subA (v : Byte) : (s.subA v).control = s.control := s.control_toA _
@[simp] theorem State.control_sbcA (v : Byte) : (s.sbcA v).control = s.control := s.control_toA _
@[simp] theorem State.control_andA (v : Byte) : (s.andA v).control = s.control := s.control_toA _
@[simp] theorem State.control_xorA (v : Byte) : (s.xorA v).control = s.control := s.control_toA _
@[simp] theorem State.control_orA (v : Byte) : (s.orA v).control = s.control := s.control_toA _
@[simp] theorem State.control_cpA (v : Byte) : (s.cpA v).control = s.control := s.control_assign _
@[simp] theorem State.control_drawFlag (g : Flag) : (s.drawFlag g).control = s.control := s.control_assign _
@[simp] theorem State.control_drawYX : s.drawYX.control = s.control := by simp [State.drawYX]
@[simp] theorem State.control_drawHPvYX : s.drawHPvYX.control = s.control := by simp [State.drawHPvYX]
@[simp] theorem State.control_modifyHalf (x : Idx) (w : Half) (f : Byte → Byte × FlagSet) :
    (s.modifyHalf x w f).control = s.control := by simp [State.modifyHalf]
@[simp] theorem State.control_rotA (f : RotFn) : (s.rotA f).control = s.control := by simp [State.rotA]
@[simp] theorem State.control_cpIteration (d : Dir) : (s.cpIteration d).control = s.control := by
  simp [State.cpIteration]
@[simp] theorem State.control_repeatLd : s.repeatLd.control = s.control := by
  simp [State.repeatLd, State.control_ite]
@[simp] theorem State.control_repeatCp : s.repeatCp.control = s.control := by
  simp [State.repeatCp, State.control_ite]
@[simp] theorem State.control_repeatIo : s.repeatIo.control = s.control := by
  simp [State.repeatIo, State.control_ite]

@[simp] theorem State.control_write16 (a v : Word) :
    (s.write16 a v).control = { s.control with mem := (s.write16 a v).mem } := rfl
@[simp] theorem State.control_setLoc_reg (r : Reg8) (v : Byte) : (s.setLoc (.reg r) v).control = s.control :=
  s.control_setReg r v
@[simp] theorem State.control_setLoc_atHL (v : Byte) :
    (s.setLoc .atHL v).control = { s.control with mem := (s.write s.hl v).mem } := rfl
@[simp] theorem State.control_modifyLoc (z : Loc8) (f : Byte → Byte × FlagSet) :
    (s.modifyLoc z f).control = (s.setLoc z (f (s.getLoc z)).1).control := State.control_assign _ _
@[simp] theorem State.control_rotLoc (f : RotFn) (z : Loc8) :
    (s.rotLoc f z).control = (s.setLoc z (f (s.getLoc z) (s.flag .c)).1).control := State.control_assign _ _
@[simp] theorem State.control_modifyAt (a : Word) (f : Byte → Byte × FlagSet) :
    (s.modifyAt a f).control = (s.write a (f (s.read a)).1).control := State.control_assign _ _
@[simp] theorem State.control_storeCopy (a : Word) (v : Byte) (c : Option Reg8) :
    (s.storeCopy a v c).control = (s.write a v).control := State.control_copyTo _ _ _
@[simp] theorem State.control_rotAt (f : RotFn) (a : Word) (c : Option Reg8) :
    (s.rotAt f a c).control = (s.write a (f (s.read a) (s.flag .c)).1).control := by simp [State.rotAt]
@[simp] theorem State.control_ldIteration (d : Dir) :
    (s.ldIteration d).control = (s.write s.de (s.read s.hl)).control := by simp [State.ldIteration]

@[simp] theorem State.control_dropTop : s.dropTop.control = { s.control with sp := s.sp + 2 } := rfl
@[simp] theorem State.control_setStackPair (p : StackPair) (v : Word) : (s.setStackPair p v).control = s.control := by
  cases p <;> exact s.control_setView _
@[simp] theorem State.control_returnPop : s.returnPop.control = { s.control with sp := s.sp + 2 } := rfl
@[simp] theorem State.control_returnFromInterrupt :
    s.returnFromInterrupt.control = { s.control with sp := s.sp + 2, iff1 := s.iff2 } := rfl
@[simp] theorem State.control_push16 (v : Word) :
    (s.push16 v).control = { s.control with sp := s.sp - 2, mem := (s.push16 v).mem } := rfl
@[simp] theorem State.control_callTo (ret target : Word) :
    (s.callTo ret target).control = (s.push16 ret).control := rfl

@[simp] theorem State.control_portRead (p : Word) :
    (s.portRead p).control = { s.control with events := (s.portRead p).events } := rfl
@[simp] theorem State.control_portWrite (p : Word) (v : Byte) :
    (s.portWrite p v).control = { s.control with events := (s.portWrite p v).events } := rfl
@[simp] theorem State.control_inIteration (d : Dir) : (s.inIteration d).control =
    { s.control with events := (s.portRead s.bc).events, mem := (s.write s.hl (s.portByte s.bc)).mem } := by
  simp [State.inIteration]; rfl
@[simp] theorem State.control_outIteration (d : Dir) : (s.outIteration d).control =
    { s.control with events := (s.outIteration d).events } := by
  simp [State.outIteration]

end

/-! ### Every rule -/

/-- Each rule writes only the cells it is named for: `control` after it is computed from `control` before it, and each cell
is as it was or has the rule among its writers. Whether a rule stores, or writes SP, can hang on its operand. -/
theorem exec_control_of_rule {i : Instr} (h : i.ruleOf = i) (s : State) :
    Completes (exec i s) fun t => s.control.KeptBy i t.control := by
  cases i
  case xyFallThrough => cases h
  all_goals refine ⟨_, rfl, ?_⟩
  case' incR z | decR z | ldRN z _ | rlcR z | rrcR z | rlR z | rrR z | slaR z | sraR z | sllR z | srlR z | resR _ z
    | setR _ z => cases z
  case' ldRpNn p _ | incRp p | decRp p | ldRpAtNn p _ => cases p
  case' djnz | jrCc | retCc | jpCcNn | callCcNn => split
  all_goals constructor <;> simp [Instr.writesSp.eq_def, Instr.usesPort.eq_def, Instr.stores.eq_def, State.setPair]

/-- The same of every well-formed instruction: its rule is the only writer. -/
theorem exec_control {i : Instr} (hw : i.wellFormed = true) (s : State) :
    Completes (exec i s) fun t => s.control.KeptBy i.ruleOf t.control := by
  obtain ⟨n, hn⟩ := exec_eq_ruleOf hw
  rw [hn]
  exact s.control_advance n ▸ exec_control_of_rule (Instr.ruleOf_ruleOf hw) (s.advance n)

/-- Settles O8: the other bank is one of the cells with named writers. -/
theorem otherBankKept : Obligations.OtherBankKept := by
  intro i s hw haf hexx
  obtain ⟨t, ht, hk⟩ := exec_control hw s
  exact ⟨t, ht, hk.other haf hexx⟩

/-- Settles O9: a writer that is no unprefixed row is never what a DD or FD byte falls through to. -/
theorem onlyNamedWriters : Obligations.OnlyNamedWriters := by
  intro i s hw
  obtain ⟨t, ht, hk⟩ := exec_control hw s
  refine ⟨t, ht, fun h => hk.i (Instr.ruleOf_ne hw rfl h), fun h => hk.r (Instr.ruleOf_ne hw rfl h), hk.halted,
    fun hdi hei hi hn => hk.iff1 hdi hei (Instr.ruleOf_ne hw rfl hi) fun y => Instr.ruleOf_ne hw rfl (hn y), hk.iff2,
    fun h => hk.im fun u => ?_, hk.sp, hk.events, hk.mem⟩
  obtain ⟨h0, hs, h1, h2⟩ := h u
  exact ⟨Instr.ruleOf_ne hw rfl h0, Instr.ruleOf_ne hw rfl hs, Instr.ruleOf_ne hw rfl h1, Instr.ruleOf_ne hw rfl h2⟩

end Machine
end Sys2Proof
end

section
/-! PROOFS about R: how many opcode fetches the bytes of an instruction stand for, and that a step counts them. -/

namespace Sys2Proof

/-! ## Opcode fetches, from the bytes -/

open Laws (isNoOpRow)

/-- The fields of 0xCB, and of 0xDD, 0xED and 0xFD, whose z is 5 (R76). -/
theorem isPrefixByte_opByte (x : BitVec 2) (y z : BitVec 3) :
    isPrefixByte (opByte x y z) = (x == 3 && (z == 3 && y == 1 || z == 5 && (y == 3 || y == 5 || y == 7))) := by
  revert x y z; decide +kernel

theorem isPrefixByte_idx (x : Idx) : isPrefixByte x.byte = true := by cases x <;> rfl

/-- The unprefixed rows are those whose first byte is none of CB, DD, ED and FD (R83). -/
theorem Instr.isMain_of_prefix {i : Instr} {b0 : Byte} {rest : List Byte} (h : encode i <+: b0 :: rest) :
    i.isMain = !isPrefixByte b0 := by
  cases i
  all_goals obtain ⟨rfl, -⟩ := List.cons_prefix_cons.1 h
  case pushRp2 p | popRp2 p => cases p <;> rfl
  all_goals simp only [Instr.isMain.eq_def, isPrefixByte_opByte, opByteP_eq, isPrefixByte_idx]
  all_goals rfl

/-- A DD or FD byte consumed as a no-op stands before a second one or before ED (R99). -/
theorem encode_of_isNoOpRow {i : Instr} (h : isNoOpRow i = true) :
    ∃ x b, encode i = [Idx.byte x, b] ∧ (b = 0xDD ∨ b = 0xED ∨ b = 0xFD) := by
  cases i
  case xyThenXy x u => exact ⟨x, u.byte, rfl, by cases u <;> decide⟩
  case xyThenEd x => exact ⟨x, 0xED, rfl, by decide⟩
  all_goals cases h

theorem Instr.m1Count_eq (i : Instr) : i.m1Count = if i.isMain = true ∨ isNoOpRow i = true then 1 else 2 := by
  cases i <;> rfl

theorem encodes_of_decodeBytes {b0 b1 b2 b3 : Byte} {i : Instr} (h : decodeBytes b0 b1 b2 b3 = .ok i) :
    i.Encodes [b0, b1, b2, b3] := by
  obtain ⟨j, hj, he⟩ := everyFourBytesDecode b0 b1 b2 b3
  obtain rfl : j = i := Except.ok.inj (hj.symm.trans h)
  exact he

theorem isNoOpRow_iff {b0 b1 b2 b3 : Byte} {i : Instr} (h : decodeBytes b0 b1 b2 b3 = .ok i) :
    isNoOpRow i = true ↔ (b0 = 0xDD ∨ b0 = 0xFD) ∧ (b1 = 0xDD ∨ b1 = 0xED ∨ b1 = 0xFD) := by
  constructor
  · intro hn
    obtain ⟨x, b, he, hb⟩ := encode_of_isNoOpRow hn
    have hp := (encodes_of_decodeBytes h).2
    rw [he] at hp
    simp only [List.cons_prefix_cons] at hp
    obtain ⟨rfl, rfl, -⟩ := hp
    exact ⟨by cases x <;> decide, hb⟩
  · rintro ⟨rfl | rfl, rfl | rfl | rfl⟩ <;> (cases h; rfl)

/-- The opcode fetches of an instruction, from its first two bytes (R96). -/
theorem m1Count_of_decodeBytes {b0 b1 b2 b3 : Byte} {i : Instr} (h : decodeBytes b0 b1 b2 b3 = .ok i) :
    i.m1Count = if b0 = 0xCB ∨ b0 = 0xED then 2
      else if b0 = 0xDD ∨ b0 = 0xFD then (if b1 = 0xDD ∨ b1 = 0xED ∨ b1 = 0xFD then 1 else 2)
      else 1 := by
  rw [Instr.m1Count_eq, Instr.isMain_of_prefix (encodes_of_decodeBytes h).2]
  simp only [isNoOpRow_iff h]
  by_cases hp : isPrefixByte b0 = true
  · rw [hp]
    simp only [isPrefixByte, Bool.or_eq_true, beq_iff_eq] at hp
    obtain ((rfl | rfl) | rfl) | rfl := hp <;> simp
  · rw [Bool.not_eq_true] at hp
    rw [hp]
    simp only [isPrefixByte, Bool.or_eq_false_iff, beq_eq_false_iff_ne] at hp
    obtain ⟨⟨⟨hcb, hdd⟩, hed⟩, hfd⟩ := hp
    simp only [hcb, hdd, hed, hfd, Bool.not_false, true_or, or_self, if_true, if_false]

/-- The bytes of LD R,A (R287). -/
theorem decodeBytes_eq_ldRefreshA {b0 b1 b2 b3 : Byte} :
    decodeBytes b0 b1 b2 b3 = .ok .ldRefreshA ↔ b0 = 0xED ∧ b1 = 0x4F := by
  constructor
  · intro h
    have hp := (encodes_of_decodeBytes h).2
    simp only [encode, List.cons_prefix_cons] at hp
    obtain ⟨rfl, rfl, -⟩ := hp
    exact ⟨rfl, rfl⟩
  · rintro ⟨rfl, rfl⟩; rfl

namespace Machine

/-! ## The refresh register -/

/-- bumpR keeps bit 7 (R31). -/
theorem bumped_bit7 (r : Byte) (k : Nat) : (bumped r k).getLsbD 7 = r.getLsbD 7 := by
  simp [bumped]

theorem highBit_or_low (a b : Byte) : ((a &&& 0x80) ||| (b &&& 0x7F)).toNat % 2 ^ 7 = b.toNat % 2 ^ 7 := by
  refine Nat.eq_of_testBit_eq fun j => ?_
  simp only [Nat.testBit_mod_two_pow, BitVec.testBit_toNat, BitVec.getLsbD_or, BitVec.getLsbD_and]
  by_cases hj : j < 7
  · interval_cases j <;> simp
  · simp [hj]

/-- bumpR counts modulo 128 (R31). -/
theorem bumped_mod (r : Byte) (k : Nat) : (bumped r k).toNat % 128 = (r.toNat + k) % 128 := by
  rw [bumped, ← show 2 ^ 7 = 128 from rfl, highBit_or_low, BitVec.toNat_add, BitVec.toNat_ofNat]
  omega

/-- Settles O11: the step counts the fetches in R first (R83), and only LD R,A writes R after that. -/
theorem refreshCountsFetches : Obligations.RefreshCountsFetches := by
  intro s hh b0 b1 k
  obtain ⟨i, hi, hw⟩ := s.fetch_wellFormed
  obtain ⟨t, ht, hkept⟩ := exec_control hw (s.fetched i)
  refine ⟨t, (step_of_fetch hh hi).trans ht, ?_, fun hb => ?_⟩
  · intro hb
    cases hi.symm.trans (decodeBytes_eq_ldRefreshA.2 hb)
    cases ht
    simp [State.fetched, State.bumpR, State.advance]
  · have hne : i ≠ .ldRefreshA := by rintro rfl; exact hb (decodeBytes_eq_ldRefreshA.1 hi)
    have hk : i.m1Count = k := m1Count_of_decodeBytes hi
    have hr : t.r = bumped s.r k := hk ▸ hkept.r (Instr.ruleOf_ne hw rfl hne)
    rw [hr]
    exact ⟨bumped_bit7 _ _, bumped_mod _ _⟩

end Machine
end Sys2Proof
end

section
/-! PROOFS of the instructions that write single cells (the loads of I and R, the bank exchanges, HALT, DI, EI and IM) and
of the host's names. -/

namespace Sys2Proof.Machine

/-! ## Loads of I and R, and the bank exchanges -/

/-- LD A,I and LD A,R: A takes v, PV takes IFF2, C is kept (R136). -/
theorem State.ldAir_spec (s : State) (v : Byte) :
    let t := (s.toA (v, ldAirFlags v s.iff2)).advance 2
    t.getReg .a = v ∧ t.HasSzyx v ∧ t.flag .h = false ∧ t.flag .pv = s.iff2 ∧ t.flag .n = false ∧ t.pc = s.pc + 2 ∧
      Touch.Frame { regs := [.a], flags := notC } s t := by
  refine ⟨by simp, ?_, by simp [FlagSet.get, ldAirFlags], by simp [FlagSet.get, ldAirFlags],
    by simp [FlagSet.get, ldAirFlags], by simp [State.toA, State.setA], ?_⟩
  · rw [State.hasSzyx_advance]
    exact State.hasSzyx_toA s _ rfl rfl rfl rfl
  · exact ((Touch.Frame.refl _ s).toA (List.mem_singleton.2 rfl) (isSome_notC rfl)).advance 2

/-- Settles O33: two are a single write, and two load A through `ldAir_spec`. -/
theorem interruptAndRefreshLoads : Obligations.InterruptAndRefreshLoads := fun s =>
  ⟨⟨_, rfl, rfl, ⟨rfl, ((Touch.Frame.refl _ s).setI (List.mem_singleton.2 rfl) _).advance 2⟩⟩,
    ⟨_, rfl, rfl, ⟨rfl, ((Touch.Frame.refl _ s).setRefresh (List.mem_singleton.2 rfl) _).advance 2⟩⟩,
    ⟨_, rfl, s.ldAir_spec s.i⟩, _, rfl, s.ldAir_spec s.r⟩

/-- A bank put in the active view keeps a frame when it differs only in what the touch lists. -/
theorem Touch.Frame.setView {m : Touch} {s t : State} (h : m.Frame s t) {k : Bank}
    (hr : ∀ r, r ∉ m.regs → k.get r = t.getReg r) (hf : ∀ g, g ∉ m.flags → k.f.getLsbD g.bit = t.flag g) :
    m.Frame s (t.setView k) where
  regs r hn := by rw [← h.regs r hn, ← hr r hn, State.getReg, State.view_setView]
  flags g hn := by rw [← h.flags g hn, ← hf g hn, State.flag, State.getF, State.view_setView]
  halves x w hw := by simpa using h.halves x w hw
  mem a ha := by simpa using h.mem a ha
  sp hn := by simpa using h.sp hn
  i hn := by simpa using h.i hn
  r hn := by simpa using h.r hn
  iff1 hn := by simpa using h.iff1 hn
  iff2 hn := by simpa using h.iff2 hn
  im hn := by simpa using h.im hn
  halted hn := by simpa using h.halted hn
  other hn := by simpa using h.other hn
  draws hn := by simpa using h.draws hn
  events hn := by simpa using h.events hn
  alt := by simpa using h.alt
  params := by simpa using h.params

@[simp] theorem State.view_advance (s : State) (n : Word) : (s.advance n).view = s.view := rfl
@[simp] theorem State.other_advance (s : State) (n : Word) : (s.advance n).other = s.other := rfl

/-- The active view and the other bank replaced, then PC advanced. -/
theorem State.frame_setBanks (s : State) {m : Touch} (k o : Bank) (n : Word)
    (hr : ∀ r, r ∉ m.regs → k.get r = s.getReg r) (hf : ∀ g, g ∉ m.flags → k.f.getLsbD g.bit = s.flag g)
    (ho : .other ∈ m.special) : m.Frame s (((s.setView k).setOther o).advance n) :=
  (((Touch.Frame.refl m s).setView hr hf).setOther ho o).advance n

/-- Settles O34: a register of the new view or the new other bank is one of the old ones, and F moves with A only. -/
theorem bankExchanges : Obligations.BankExchanges := by
  intro s
  refine ⟨⟨_, rfl, ?_⟩, _, rfl, ?_⟩
  · refine ⟨by simp [State.getReg, Bank.get], by simp [State.getF], by simp [State.getReg, Bank.get],
      by simp [State.getF], fun r hr => ?_, by simp, ?_⟩
    · cases r <;> simp [Bank.get] at hr ⊢
    · refine s.frame_setBanks _ _ 1 (fun r hr => ?_) (fun g hg => absurd (mem_allFlags g) hg)
        (List.mem_singleton.2 rfl)
      cases r with
      | a => simp at hr
      | _ => rfl
  · refine ⟨fun r hr => ?_, by simp, by simp, by simp, ?_⟩
    · cases r <;> simp [State.getReg, Bank.get] at hr ⊢
    · refine s.frame_setBanks _ _ 1 (fun r hr => ?_) (fun g _ => rfl) (List.mem_singleton.2 rfl)
      cases r with
      | a => rfl
      | _ => simp at hr

/-! ## The host's names -/

@[simp] theorem Bank.cell_setCell (b : Bank) (k : BankCell) (v : Byte) : (b.setCell k v).cell k = v := by
  cases k <;> rfl

@[simp] theorem halfOfWord_withHalf (v : Word) (w : Half) (x : Byte) : halfOfWord (withHalf v w x) w = x := by
  cases w <;> simp [halfOfWord, withHalf]

/-- A cell written by a name reads back by it. -/
theorem State.hostRead_hostWrite (s : State) (c : HostCell) (v : Byte) : (s.hostWrite c v).hostRead c = v := by
  cases c with
  | active k => simp [State.hostWrite, State.hostRead]
  | shadow k => exact Bank.cell_setCell _ _ _
  | i => rfl
  | r => rfl
  | index x w => simp [State.hostWrite, State.hostRead, State.getHalf_setHalf]
  | sp w => exact halfOfWord_withHalf _ _ _
  | pc w => exact halfOfWord_withHalf _ _ _

/-- Settles O18: an active name writes the active view, which is the shadow bank exactly when ALT is set (R24). -/
theorem hostNamesReachCells : Obligations.HostNamesReachCells := by
  intro s v
  refine ⟨fun c => s.hostRead_hostWrite c v, fun k => ?_, fun k => ?_, fun k => ⟨Bank.cell_setCell _ _ _, rfl⟩⟩
  · cases h : s.alt <;> simp [State.hostWrite, State.setView, State.view, h]
  · cases h : s.alt <;> simp [State.hostWrite, State.setView, State.view, h]

/-! ## HALT and the interrupt cells -/

/-- Settles O42: only HALTED is written, so the step after it finds the core halted. -/
theorem haltStays : Obligations.HaltStays := fun s =>
  ⟨s.setHalted true, rfl, rfl, ⟨rfl, (Touch.Frame.refl _ s).setHalted (List.mem_singleton.2 rfl) true⟩,
    step_of_halted rfl⟩

/-- DI and EI write the two flip-flops (R227, R228). -/
theorem State.setIffs_spec (s : State) (v : Bool) :
    let t := ((s.setIff1 v).setIff2 v).advance 1
    t.iff1 = v ∧ t.iff2 = v ∧ Controlled s [.iff1, .iff2] (s.pc + 1) t :=
  ⟨rfl, rfl, rfl, (((Touch.Frame.refl _ s).setIff1 (by simp) v).setIff2 (by simp) v).advance 1⟩

/-- The IM instructions write IM (R282, R284, R285). -/
theorem State.setIm_spec (s : State) (m : IntMode) :
    ((s.setIm m).advance 2).im = m ∧ Controlled s [.im] (s.pc + 2) ((s.setIm m).advance 2) :=
  ⟨rfl, rfl, ((Touch.Frame.refl _ s).setIm (List.mem_singleton.2 rfl) m).advance 2⟩

/-- Settles O43: each is a write of the cells its rule names and the PC update. -/
theorem interruptControl : Obligations.InterruptControl := fun s =>
  ⟨⟨_, rfl, s.setIffs_spec false⟩, ⟨_, rfl, s.setIffs_spec true⟩, fun _ => ⟨_, rfl, s.setIm_spec .im0⟩,
    fun _ => ⟨_, rfl, s.setIm_spec .im1⟩, fun _ => ⟨_, rfl, s.setIm_spec .im2⟩⟩

/-- Settles O44: whatever the drawn bit is, IM is one of the two. -/
theorem undefinedInterruptMode : Obligations.UndefinedInterruptMode := by
  intro s u
  refine ⟨_, rfl, ?_, rfl, (((Touch.Frame.refl _ s).drew (by simp)).setIm (by simp) _).advance 2⟩
  show (if s.drawnBit then IntMode.im1 else .im0) = .im0 ∨ (if s.drawnBit then IntMode.im1 else .im0) = .im1
  cases s.drawnBit
  · exact .inl rfl
  · exact .inr rfl

end Sys2Proof.Machine
end

section
/-! PROOFS about memory, the stack and the ports: a store then a load, PUSH and POP, the word loads and exchanges, the port
inputs and the I/O block instructions. -/

namespace Sys2Proof.Machine

/-! ## Stores and loads -/

/-- Settles O19: the load reads the memory the store left, which is new at the cell of nn only. -/
theorem storeThenLoad : Obligations.StoreThenLoad := by
  intro s nn mm
  refine ⟨_, rfl, _, rfl, ?_⟩
  calc _ = (s.write nn (s.getReg .a)).read mm := by simp [State.setA]
    _ = if s.cell mm = s.cell nn then s.getReg .a else s.read mm := s.read_write nn mm _
    _ = _ := if_congr eq_comm rfl rfl

theorem State.setPair_loaded (s : State) (p : Pair) (v n : Word) :
    WideLoaded s (.pair p) v n ((s.setPair p v).advance n) :=
  .of_write (s.getPair_setPair p v) (s.pc_setPair p v) (s.frame_setPair p v [])

theorem State.setIdx_loaded (s : State) (x : Idx) (v n : Word) :
    WideLoaded s (.index x) v n ((s.setIdx x v).advance n) :=
  .of_write (by simp [WideTarget.Holds]) (by simp) (s.frame_setIdx x v [])

theorem State.write16_loaded (s : State) (a v n : Word) : WideLoaded s (.mem a) v n ((s.write16 a v).advance n) :=
  .of_write (s.holds_write16 a v) rfl (s.frame_write16 a v [])

/-- Settles O32: HL and SP are pairs too, so each is a pair, an index register or a word of memory written. -/
theorem wordLoads : Obligations.WordLoads := fun s =>
  ⟨fun p nn => ⟨_, rfl, s.setPair_loaded p nn 3⟩, fun nn => ⟨_, rfl, s.write16_loaded nn s.hl 3⟩,
    fun nn => ⟨_, rfl, s.setPair_loaded .hl (s.read16 nn) 3⟩,
    fun p nn => ⟨_, rfl, s.write16_loaded nn (s.getPair p) 4⟩,
    fun p nn => ⟨_, rfl, s.setPair_loaded p (s.read16 nn) 4⟩, ⟨_, rfl, s.setPair_loaded .sp s.hl 1⟩,
    fun x nn => ⟨_, rfl, s.setIdx_loaded x nn 4⟩, fun x nn => ⟨_, rfl, s.write16_loaded nn (s.getIdx x) 4⟩,
    fun x nn => ⟨_, rfl, s.setIdx_loaded x (s.read16 nn) 4⟩, fun x => ⟨_, rfl, s.setPair_loaded .sp (s.getIdx x) 2⟩⟩

/-- Settles O35: the word at SP is read in the state before the store. -/
theorem wordExchanges : Obligations.WordExchanges := by
  intro s
  refine ⟨⟨_, rfl, ?_⟩, ⟨_, rfl, ?_⟩, fun x => ⟨_, rfl, ?_⟩⟩
  · exact ⟨by simp [State.advance], by simp [State.advance], by simp,
      (((Touch.Frame.refl _ s).setDe (by simp) (by simp) _).setHl (by simp) (by simp) _).advance 1⟩
  · exact ⟨by simp [State.advance, State.top16, State.read16],
      (WideTarget.holds_advance _ _ 1 _).2 (by simpa [WideTarget.Holds] using s.holds_write16 s.sp s.hl),
      by simp [State.write16],
      (((Touch.Frame.refl _ s).write16 (by simp) (by simp) _).setHl (by simp) (by simp) _).advance 1⟩
  · exact ⟨by simp [State.top16, State.read16],
      (WideTarget.holds_advance _ _ 2 _).2 (by simpa [WideTarget.Holds] using s.holds_write16 s.sp (s.getIdx x)),
      by simp [State.write16],
      (((Touch.Frame.refl _ s).write16 (by simp) (by simp) _).setIdx (by simp) (by simp) _).advance 2⟩

/-! ## The stack -/

@[simp] theorem State.getStackPair_setStackPair (s : State) (p : StackPair) (v : Word) :
    (s.setStackPair p v).getStackPair p = v := by
  cases p <;> simp [State.setStackPair, State.getStackPair]

@[simp] theorem State.getStackPair_advance (s : State) (n : Word) (p : StackPair) :
    (s.advance n).getStackPair p = s.getStackPair p := by
  cases p <;> rfl

@[simp] theorem State.setStackPair_sp (s : State) (p : StackPair) (v : Word) : (s.setStackPair p v).sp = s.sp := by
  cases p <;> simp [State.setStackPair]

@[simp] theorem State.setStackPair_pc (s : State) (p : StackPair) (v : Word) : (s.setStackPair p v).pc = s.pc := by
  cases p <;> simp [State.setStackPair]

/-- A stack pair written with the word it has in another state of the same active view. -/
theorem State.view_setStackPair_getStackPair {s t : State} (h : t.view = s.view) (p : StackPair) :
    (t.setStackPair p (s.getStackPair p)).view = s.view := by
  cases p <;> simp [State.setStackPair, State.getStackPair, State.bc, State.de, State.hl, State.af, h]

theorem Touch.Frame.setStackPair {m : Touch} {s t : State} (h : m.Frame s t) {p : StackPair}
    (hr : ∀ r, r ∈ p.regs → r ∈ m.regs) (hf : p = .af → ∀ g, g ∈ m.flags) (v : Word) :
    m.Frame s (t.setStackPair p v) := by
  cases p with
  | bc => exact h.setBc (hr .b (by simp [StackPair.regs])) (hr .c (by simp [StackPair.regs])) v
  | de => exact h.setDe (hr .d (by simp [StackPair.regs])) (hr .e (by simp [StackPair.regs])) v
  | hl => exact h.setHl (hr .h (by simp [StackPair.regs])) (hr .l (by simp [StackPair.regs])) v
  | af => exact h.setAf (hr .a (by simp [StackPair.regs])) (hf rfl) v

@[simp] theorem State.view_push16 (s : State) (v : Word) : (s.push16 v).view = s.view := by
  simp [State.push16, State.write16]

/-- What a pop takes from the stack after a push, when the two bytes have a cell each (R210). -/
theorem Pushed.top16_eq {s t : State} {v target : Word} (h : Pushed s v target t)
    (hc : s.cell (s.sp - 2) ≠ s.cell (s.sp - 1)) : t.top16 = v := by
  have hsp : s.sp - 2 + 1 = s.sp - 1 := by bv_omega
  rw [State.top16, State.read16, h.sp, hsp, h.high, h.low hc, concat_hi8_lo8]

/-- PUSH rp2 (R214): `push16` then the PC update. -/
theorem execPushRp2_pushed (p : StackPair) (s : State) :
    Pushed s (s.getStackPair p) (s.pc + 1) ((s.push16 (s.getStackPair p)).advance 1) := s.push16_spec _ _

/-- POP rp2 (R213) in a state with the active view of s and the pair's word of s on top of the stack. -/
theorem execPopRp2_restores {s t : State} {p : StackPair} (hv : t.view = s.view) (htop : t.top16 = s.getStackPair p) :
    Completes (execPopRp2 p t) fun u => u.view = s.view ∧ u.sp = t.sp + 2 := by
  refine ⟨_, rfl, ?_, by simp [State.advance, State.dropTop]⟩
  rw [htop]
  exact State.view_setStackPair_getStackPair (t := t.dropTop) hv p

/-- Settles O20: the word popped is the one pushed, and a push leaves the active view alone. -/
theorem pushThenPop : Obligations.PushThenPop := by
  intro p s hc
  have hpush := execPushRp2_pushed p s
  have hview : ((s.push16 (s.getStackPair p)).advance 1).view = s.view := by simp
  obtain ⟨u, hu, huv, hsp⟩ := execPopRp2_restores hview (hpush.top16_eq hc)
  exact ⟨_, rfl, u, hu, huv, by rw [hsp, hpush.sp, BitVec.sub_add_cancel]⟩

/-- Settles O36: a push is `push16`, and a pop writes the word at SP to the pair or index register. -/
theorem pushAndPop : Obligations.PushAndPop := by
  intro s top
  have htop : s.top16 = top := rfl
  refine ⟨fun p => ⟨_, rfl, execPushRp2_pushed p s⟩, fun x => ⟨_, rfl, s.push16_spec _ _⟩, fun p => ⟨_, rfl, ?_⟩,
    fun x => ⟨_, rfl, ?_⟩⟩
  · exact ⟨by simp [htop], by simp [State.advance, State.dropTop], by simp [State.dropTop],
      (((Touch.Frame.refl _ s).setSp (List.mem_singleton.2 rfl) _).setStackPair (fun _ hr => hr)
        (fun hp g => by rw [if_pos hp]; exact mem_allFlags g) _).advance 1⟩
  · exact ⟨by simp [htop], by simp [State.advance, State.dropTop], by simp [State.dropTop],
      (((Touch.Frame.refl _ s).setSp (List.mem_singleton.2 rfl) _).setIdx (by simp) (by simp) _).advance 2⟩

/-! ## Port inputs -/

/-- A port read draws the byte and records the event, nothing else (R56). -/
theorem Touch.Frame.portRead {m : Touch} {s t : State} (h : m.Frame s t) (hd : .draws ∈ m.special)
    (he : .events ∈ m.special) (port : Word) : m.Frame s (t.portRead port) :=
  (h.record he _).drew hd

@[simp] theorem State.events_portRead (s : State) (port : Word) :
    (s.portRead port).events = .input port (s.portByte port) :: s.events := rfl

@[simp] theorem State.pc_portRead (s : State) (port : Word) : (s.portRead port).pc = s.pc := rfl

/-- The flags of IN r,(C) and IN (C) from the byte read (R141). -/
theorem State.hasSzp_assign (s : State) (v : Byte) (n : Word) : ((s.assign (szpFlags v)).advance n).HasSzp v where
  szyx := (State.hasSzyx_advance _ n v).2 (State.hasSzyx_assign s _ v rfl rfl rfl rfl)
  half := by simp [FlagSet.get, szpFlags]
  parity := by simp [FlagSet.get, szpFlags, parity_eq_evenOnes]
  addition := by simp [FlagSet.get, szpFlags]

/-- Settles O55: the byte is the one the port read recorded. -/
theorem portInputs : Obligations.PortInputs := by
  intro s
  refine ⟨fun n => ⟨_, rfl, s.portByte (concat (s.getReg .a) n), ?_⟩, fun r => ⟨_, rfl, s.portByte s.bc, ?_⟩,
    _, rfl, s.portByte s.bc, ?_⟩
  · exact ⟨by simp [State.advance, State.setA], by simp [State.setA], by simp [State.setA],
      (((Touch.Frame.refl _ s).portRead (by simp) (by simp) _).setReg (by simp) _).advance 2⟩
  · exact ⟨by simp [State.advance, State.bc_eq], by simp, State.hasSzp_assign _ _ 2, by simp,
      ((((Touch.Frame.refl _ s).portRead (by simp) (by simp) _).setReg (by simp) _).assign _
        (isSome_notC rfl)).advance 2⟩
  · exact ⟨by simp [State.advance, State.bc_eq], State.hasSzp_assign _ _ 2, by simp,
      (((Touch.Frame.refl _ s).portRead (by simp) (by simp) _).assign _ (isSome_notC rfl)).advance 2⟩

/-! ## Block I/O -/

/-- Settles O58: each is one iteration, of which `repeatIo` says whether it stays at PC. -/
theorem blockInputs : Obligations.BlockInputs := fun s =>
  ⟨⟨_, rfl, _, s.inIteration_spec .inc⟩, ⟨_, rfl, _, s.inIteration_spec .dec⟩, ⟨_, rfl, _, s.repeatIo_in_spec .inc⟩,
    _, rfl, _, s.repeatIo_in_spec .dec⟩

/-- Settles O59: each is one iteration, which sends the byte at HL, and then the same choice of PC. -/
theorem blockOutputs : Obligations.BlockOutputs := fun s =>
  ⟨⟨_, rfl, s.outIteration_spec .inc⟩, ⟨_, rfl, s.outIteration_spec .dec⟩, ⟨_, rfl, s.repeatIo_out_spec .inc⟩,
    _, rfl, s.repeatIo_out_spec .dec⟩

end Sys2Proof.Machine
end

section
/-! PROOFS of the decoder's other direction: bytes that begin with the encoding of a well-formed instruction decode to
it. -/

namespace Sys2Proof

/-! ## Fields and operands, from the encoder's side -/

@[simp] theorem opX_opByteP (x p : BitVec 2) (q : BitVec 1) (z : BitVec 3) : opX (opByteP x p q z) = x := by
  rw [opByteP_eq, opX_opByte]

/-- A word operand is its two bytes (R22). -/
theorem exists_concat (nn : Word) : ∃ hi lo, nn = concat hi lo := ⟨_, _, (concat_hi8_lo8 nn).symm⟩

/-- Selector 110 is INDIRECT-VIA-HL (R84). -/
@[simp] theorem loc8Of_six : loc8Of 6#3 = .atHL := rfl

/-! ## The unprefixed table -/

/-- JR cc has its conditions at y = 4 to 7 (R177). -/
theorem decodeMain_jrCc {cc : Cond} (h : cc.isJr = true) (e d2 : Byte) :
    decodeMain (opByte 0 (cc.code + 4) 0) e d2 = .ok (.jrCc cc e) := by
  cases cc with
  | nz | z | nc | c => rfl
  | _ => cases h

/-- The unprefixed table gives each of its rows back. -/
theorem decodeMain_of_prefix {i : Instr} (hm : i.isMain = true) (hw : i.wellFormed = true) {b0 b1 b2 : Byte}
    (h : encode i <+: [b0, b1, b2]) : decodeMain b0 b1 b2 = .ok i := by
  cases i
  case' ldRpNn _ nn | ldAtNnHl nn | ldHlAtNn nn | ldAtNnA nn | ldAAtNn nn | jpCcNn _ nn | jpNn nn | callCcNn _ nn
    | callNn nn => obtain ⟨hi, lo, rfl⟩ := exists_concat nn
  all_goals
    simp only [encode, hi8_concat, lo8_concat, List.cons_prefix_cons] at h
    casesm* _ ∧ _
    subst_vars
  case jrCc => exact decodeMain_jrCc hw _ _
  case ldRpNn | addHlRp | incRp | decRp | incR | decR | ldRN => simp [decodeMain, decodeClass00]
  case ldRR | ldRAtHl | ldAtHlR => simp [decodeMain, decodeClass01]
  case addAR | adcAR | subR | sbcAR | andR | xorR | orR | cpR => simp [decodeMain, decodeClass10]
  case retCc | jpCcNn | callCcNn | popRp2 | pushRp2 | rst => simp [decodeMain, decodeClass11]
  all_goals first | rfl | exact absurd hm Bool.false_ne_true

theorem ne_of_isPrefixByte {b : Byte} (h : isPrefixByte b = false) :
    b ≠ 0xCB ∧ b ≠ 0xDD ∧ b ≠ 0xED ∧ b ≠ 0xFD := by
  simpa [isPrefixByte, and_assoc] using h

theorem decodeBytes_of_not_prefix {b0 : Byte} (h : isPrefixByte b0 = false) (b1 b2 b3 : Byte) :
    decodeBytes b0 b1 b2 b3 = decodeMain b0 b1 b2 := by
  obtain ⟨hcb, hdd, hed, hfd⟩ := ne_of_isPrefixByte h
  simp only [decodeBytes, hcb, hdd, hed, hfd, if_false]

/-- An unprefixed row begins with none of CB, DD, ED and FD. -/
theorem isPrefixByte_of_isMain {i : Instr} (hm : i.isMain = true) {b0 : Byte} {rest : List Byte}
    (h : encode i <+: b0 :: rest) : isPrefixByte b0 = false := by
  simpa [hm] using Instr.isMain_of_prefix h

/-! ## The CB and ED tables -/

theorem decodeBytes_cb (b1 b2 b3 : Byte) : decodeBytes 0xCB b1 b2 b3 = .ok (decodeCb b1) := rfl

theorem decodeBytes_ed (b1 b2 b3 : Byte) : decodeBytes 0xED b1 b2 b3 = .ok (decodeEd b1 b2 b3) := rfl

theorem decodeEd_nopEd00 (u : BitVec 6) (lo hi : Byte) : decodeEd (0#2 ++ u) lo hi = .nopEd00 u := by
  have hx : opX (0#2 ++ u) = 0 ∧ (0#2 ++ u).extractLsb' 0 6 = u := by revert u; decide +kernel
  simp [decodeEd, hx]

theorem decodeEd_nopEdC0 (u : BitVec 6) (lo hi : Byte) : decodeEd (3#2 ++ u) lo hi = .nopEdC0 u := by
  have hx : opX (3#2 ++ u) = 3 ∧ (3#2 ++ u).extractLsb' 0 6 = u := by revert u; decide +kernel
  simp [decodeEd, hx]

theorem decodeEd_nopEd80 (u : BitVec 5) (lo hi : Byte) : decodeEd (4#3 ++ u) lo hi = .nopEd80 u := by
  have hx : opX (4#3 ++ u) = 2 ∧ decodeEd2 (4#3 ++ u) = .nopEd80 u := by revert u; decide +kernel
  simp [decodeEd, hx]

theorem decodeEd_nopEdA4 (v w : BitVec 2) (lo hi : Byte) :
    decodeEd (5#3 ++ v ++ 1#1 ++ w) lo hi = .nopEdA4 v w := by
  have hx : opX (5#3 ++ v ++ 1#1 ++ w) = 2 ∧ decodeEd2 (5#3 ++ v ++ 1#1 ++ w) = .nopEdA4 v w := by
    revert v w; decide +kernel
  simp [decodeEd, hx]

/-- RETN's y is not 1, which is RETI (R280). -/
theorem decodeEd_retn {y : BitVec 3} (h : (Instr.retn y).wellFormed = true) (lo hi : Byte) :
    decodeEd (opByte 1 y 5) lo hi = .retn y := by
  have hy : y ≠ 1#3 := by simpa [Instr.wellFormed] using h
  simp [decodeEd, decodeEd1, hy]

/-! ## Behind a DD or FD byte -/

/-- DD selects IX and FD selects IY (R320). -/
theorem decodeBytes_idx (x : Idx) (b1 b2 b3 : Byte) : decodeBytes x.byte b1 b2 b3 = decodeXy x b1 b2 b3 := by
  cases x <;> rfl

theorem isPrefixByte_of_decodeIndexed {x : Idx} {op b2 b3 : Byte} {i : Instr}
    (h : decodeIndexed x op b2 b3 = some i) : isPrefixByte op = false := by
  by_contra hp
  simp only [isPrefixByte, Bool.not_eq_false, Bool.or_eq_true, beq_iff_eq] at hp
  obtain ((rfl | rfl) | rfl) | rfl := hp <;> cases h

/-- An indexed meaning is what the bytes behind DD or FD decode to (R92). -/
theorem decodeXy_of_decodeIndexed {x : Idx} {op b2 b3 : Byte} {i : Instr} (h : decodeIndexed x op b2 b3 = some i) :
    decodeXy x op b2 b3 = .ok i := by
  obtain ⟨hcb, hdd, hed, hfd⟩ := ne_of_isPrefixByte (isPrefixByte_of_decodeIndexed h)
  simp only [decodeXy, hcb, hdd, hed, hfd, if_false, h]

/-- Without an indexed meaning the bytes fall through to the unprefixed table (R98). -/
theorem decodeXy_of_decodeMain {x : Idx} {op b2 b3 : Byte} {i : Instr} (hp : isPrefixByte op = false)
    (hx : decodeIndexed x op b2 b3 = none) (hm : decodeMain op b2 b3 = .ok i) :
    decodeXy x op b2 b3 = .ok (.xyFallThrough x i) := by
  obtain ⟨hcb, hdd, hed, hfd⟩ := ne_of_isPrefixByte hp
  simp only [decodeXy, hcb, hdd, hed, hfd, if_false, hx, hm]

/-! ## What falls through -/

/-- An operand that DD and FD leave alone is a register that is neither H nor L (R320). -/
theorem Loc8.exists_plain {l : Loc8} (h : (!l.namesHL) = true) : ∃ r : Reg8, l = .reg r ∧ r.isHL = false := by
  cases l with
  | reg r => exact ⟨r, rfl, by simpa [Loc8.namesHL] using h⟩
  | atHL => cases h

/-- What falls through has no indexed meaning (R98). -/
theorem decodeIndexed_of_fallsThrough {i : Instr} (hf : i.fallsThrough = true) (x : Idx) {b0 b1 b2 : Byte}
    (h : encode i <+: [b0, b1, b2]) : decodeIndexed x b0 b1 b2 = none := by
  cases i
  all_goals obtain ⟨rfl, -⟩ := List.cons_prefix_cons.1 h
  case incR l | decR l | ldRN l _ | addAR l | adcAR l | subR l | sbcAR l | andR l | xorR l | orR l | cpR l =>
    obtain ⟨r, rfl, hr⟩ := Loc8.exists_plain hf
    simp [decodeIndexed, decodeIndexed00, decodeIndexed10, Loc8.code, xLocOf_regCode hr]
  case ldRR dst src =>
    have hf : (!dst.isHL && !src.isHL) = true := hf
    obtain ⟨hd, hs⟩ : dst.isHL = false ∧ src.isHL = false := by simpa using hf
    simp [decodeIndexed, decodeIndexed01, xLocOf_regCode hd, xLocOf_regCode hs]
  case ldRpNn p _ | incRp p | decRp p | popRp2 p | pushRp2 p =>
    cases p with
    | hl => cases hf
    | _ => rfl
  case jrCc cc _ | retCc cc | jpCcNn cc _ | callCcNn cc _ => cases cc <;> rfl
  case rst y => cases y using bitVec3_cases <;> rfl
  all_goals first | exact absurd hf Bool.false_ne_true | rfl

/-! ## All instructions -/

/-- The fall-through is decoded through the unprefixed table. -/
theorem decodeXy_of_fallsThrough {i : Instr} (hf : i.fallsThrough = true) (hw : i.wellFormed = true) (x : Idx)
    {b1 b2 b3 : Byte} (h : encode i <+: [b1, b2, b3]) : decodeXy x b1 b2 b3 = .ok (.xyFallThrough x i) := by
  have hm := Machine.isMain_of_fallsThrough i hf
  exact decodeXy_of_decodeMain (isPrefixByte_of_isMain hm h) (decodeIndexed_of_fallsThrough hf x h)
    (decodeMain_of_prefix hm hw h)

/-- An unprefixed row is its first three bytes at most. -/
theorem encode_prefix_three {i : Instr} (hm : i.isMain = true) {b0 b1 b2 b3 : Byte}
    (h : encode i <+: [b0, b1, b2, b3]) : encode i <+: [b0, b1, b2] := by
  obtain ⟨-, h3, hl⟩ := Laws.length_of_isMain i hm
  have hp : [b0, b1, b2] <+: [b0, b1, b2, b3] := ⟨[b3], rfl⟩
  exact List.prefix_of_prefix_length_le h hp (hl.trans_le h3)

/-- The rows behind CB, ED, DD and FD: the first byte selects the table, and the fields of the operation byte its row. -/
theorem decodeBytes_of_not_isMain {i : Instr} (hm : i.isMain = false) (hw : i.wellFormed = true) {b0 b1 b2 b3 : Byte}
    (h : encode i <+: [b0, b1, b2, b3]) : decodeBytes b0 b1 b2 b3 = .ok i := by
  cases i
  all_goals cases hm
  case xyFallThrough x inner =>
    obtain ⟨hf, hi⟩ : inner.fallsThrough = true ∧ inner.wellFormed = true := by simpa [Instr.wellFormed] using hw
    obtain ⟨rfl, hp⟩ := List.cons_prefix_cons.1 h
    exact (decodeBytes_idx x _ _ _).trans (decodeXy_of_fallsThrough hf hi x hp)
  case' ldAtNnRp _ nn | ldRpAtNn _ nn | ldIxNn _ nn | ldAtNnIx _ nn | ldIxAtNn _ nn =>
    obtain ⟨hi, lo, rfl⟩ := exists_concat nn
  all_goals
    simp only [encode, hi8_concat, lo8_concat, List.cons_prefix_cons] at h
    casesm* _ ∧ _
    subst_vars
  -- behind CB
  case rlcR | rrcR | rlR | rrR | slaR | sraR | sllR | srlR | bitR | bitAtHl | resR | setR =>
    rw [decodeBytes_cb]
    simp [decodeCb]
  -- behind ED: an operand in the operation byte, then the bytes that are fixed
  case inRAtC | outAtCR | sbcHlRp | adcHlRp | ldAtNnRp | ldRpAtNn | neg =>
    rw [decodeBytes_ed]
    simp [decodeEd, decodeEd1]
  case retn => rw [decodeBytes_ed, decodeEd_retn hw]
  case nopEd00 => rw [decodeBytes_ed, decodeEd_nopEd00]
  case nopEd80 => rw [decodeBytes_ed, decodeEd_nopEd80]
  case nopEdA4 => rw [decodeBytes_ed, decodeEd_nopEdA4]
  case nopEdC0 => rw [decodeBytes_ed, decodeEd_nopEdC0]
  case im0 u _ | im0Star u _ | im1 u _ | im2 u _ | nopEd77 u _ => cases u using bitVec1_cases <;> rfl
  case inAtC | outAtC0 | reti | ldIA | ldRefreshA | ldAI | ldARefresh | rrd | rld | ldi | cpi | ini
      | outi | ldd | cpd | ind | outd | ldir | cpir | inir | otir | lddr | cpdr | indr | otdr => rfl
  -- behind DD and FD: the DDCB table, the operands in the operation byte, then the bytes that are fixed
  all_goals rw [decodeBytes_idx]
  case rlcAtIxd | rrcAtIxd | rlAtIxd | rrAtIxd | slaAtIxd | sraAtIxd | sllAtIxd | srlAtIxd | bitAtIxd | resAtIxd
      | setAtIxd =>
    exact congrArg Except.ok (by simp [decodeXcb])
  case addIxRp | incIxp | decIxp | ldIxpN =>
    exact decodeXy_of_decodeIndexed (by simp [decodeIndexed, decodeIndexed00])
  case ldRAtIxd | ldAtIxdR | ldIxpIxq =>
    exact decodeXy_of_decodeIndexed (by simp [decodeIndexed, decodeIndexed01])
  case ldRIxp _ r _ _ | ldIxpR _ _ r _ =>
    have hr : r.isHL = false := by simpa [Instr.wellFormed] using hw
    exact decodeXy_of_decodeIndexed (by simp [decodeIndexed, decodeIndexed01, xLocOf_regCode hr])
  case addAIxp | adcAIxp | subIxp | sbcAIxp | andIxp | xorIxp | orIxp | cpIxp =>
    exact decodeXy_of_decodeIndexed (by simp [decodeIndexed, decodeIndexed10])
  case xyThenXy u _ => cases u <;> rfl
  all_goals rfl

/-- CB, ED, DD and FD select a table of their own, any other byte the unprefixed one (R83). This is the converse of
`encodes_of_decodeBytes`. -/
theorem decodeBytes_of_encodes {i : Instr} {b0 b1 b2 b3 : Byte} (h : i.Encodes [b0, b1, b2, b3]) :
    decodeBytes b0 b1 b2 b3 = .ok i := by
  obtain ⟨hw, h⟩ := h
  cases hm : i.isMain with
  | true =>
    rw [decodeBytes_of_not_prefix (isPrefixByte_of_isMain hm h)]
    exact decodeMain_of_prefix hm hw (encode_prefix_three hm h)
  | false => exact decodeBytes_of_not_isMain hm hw h

/-! ## Lists of bytes -/

/-- The family Length of Laws/PerInstr.lean, of every instruction. -/
theorem Instr.length_statement (i : Instr) : Laws.Length.Statement i := by
  cases i
  case xyFallThrough x inner => exact Laws.Length.xyFallThrough x inner
  all_goals exact fun _ => ⟨Nat.le_of_ble_eq_true rfl, Nat.le_of_ble_eq_true rfl, rfl⟩

theorem Instr.length_le_encode {i : Instr} (hw : i.wellFormed = true) : i.length ≤ (encode i).length := by
  obtain ⟨-, -, hl⟩ := i.length_statement hw
  omega

theorem Instr.encode_length_le {i : Instr} (hw : i.wellFormed = true) : (encode i).length ≤ 4 := by
  obtain ⟨-, h4, hl⟩ := i.length_statement hw
  cases i
  case xyThenXy | xyThenEd => exact Nat.le_of_ble_eq_true rfl
  all_goals exact hl.trans_le h4

/-- At most four bytes at the head of a list are among the four that decoding looks at. -/
theorem prefix_four {l t : List Byte} {b0 : Byte} (h : l <+: b0 :: t) (hl : l.length ≤ 4) :
    l <+: [b0, t.getD 0 0, t.getD 1 0, t.getD 2 0] := by
  rcases t with _ | ⟨b1, _ | ⟨b2, _ | ⟨b3, t⟩⟩⟩
  · exact h.trans ⟨[0, 0, 0], rfl⟩
  · exact h.trans ⟨[0, 0], rfl⟩
  · exact h.trans ⟨[0], rfl⟩
  · exact List.prefix_of_prefix_length_le h ⟨t, rfl⟩ hl

/-- Settles O2: the encoding lies in the four bytes that are decoded, and the list is as long as the instruction. -/
theorem decodeOfEncode : Obligations.DecodeOfEncode := by
  intro i rest hw
  have hp : encode i <+: encode i ++ rest := List.prefix_append _ _
  have hlen : i.length ≤ (encode i ++ rest).length := (Instr.length_le_encode hw).trans hp.length_le
  generalize encode i ++ rest = bs at hp hlen
  cases bs with
  | nil =>
    obtain ⟨h1, -, -⟩ := i.length_statement hw
    exact absurd (h1.trans hlen) (by simp)
  | cons b0 t =>
    have hd := decodeBytes_of_encodes ⟨hw, prefix_four hp (Instr.encode_length_le hw)⟩
    simp only [decode, hd, if_pos hlen]

end Sys2Proof
end

section
/-! PROOFS of whole steps, of the default PC update and the fall-through, and of the control transfers. -/

namespace Sys2Proof.Machine

/-! ## Whole steps -/

/-- Settles O12. -/
theorem haltedStepDoesNothing : Obligations.HaltedStepDoesNothing := fun _ => step_of_halted

/-- Settles O13: the bytes at PC are what the step fetches. -/
theorem stepRunsDecodedInstruction : Obligations.StepRunsDecodedInstruction := fun _ _ => step_of_fetch

/-- Settles O14: each word is decoded by evaluation. -/
theorem wordsDecodeAsWritten : Obligations.WordsDecodeAsWritten :=
  ⟨rfl, rfl, rfl, rfl, rfl, rfl, rfl, rfl, rfl, rfl, rfl, rfl, rfl, rfl, rfl, rfl, rfl⟩

/-! ## The default PC update -/

section
variable (s : State)

@[simp] theorem State.pc_setA (v : Byte) : (s.setA v).pc = s.pc := s.setReg_pc _ _
@[simp] theorem State.pc_toA (p : Byte × FlagSet) : (s.toA p).pc = s.pc := by simp [State.toA]
@[simp] theorem State.pc_toHl (p : Word × FlagSet) : (s.toHl p).pc = s.pc := by simp [State.toHl]
@[simp] theorem State.pc_addA (v : Byte) : (s.addA v).pc = s.pc := s.pc_toA _
@[simp] theorem State.pc_adcA (v : Byte) : (s.adcA v).pc = s.pc := s.pc_toA _
@[simp] theorem State.pc_subA (v : Byte) : (s.subA v).pc = s.pc := s.pc_toA _
@[simp] theorem State.pc_sbcA (v : Byte) : (s.sbcA v).pc = s.pc := s.pc_toA _
@[simp] theorem State.pc_andA (v : Byte) : (s.andA v).pc = s.pc := s.pc_toA _
@[simp] theorem State.pc_xorA (v : Byte) : (s.xorA v).pc = s.pc := s.pc_toA _
@[simp] theorem State.pc_orA (v : Byte) : (s.orA v).pc = s.pc := s.pc_toA _
@[simp] theorem State.pc_cpA (v : Byte) : (s.cpA v).pc = s.pc := s.assign_pc _
@[simp] theorem State.pc_write16 (a v : Word) : (s.write16 a v).pc = s.pc := rfl
@[simp] theorem State.pc_push16 (v : Word) : (s.push16 v).pc = s.pc := rfl
@[simp] theorem State.pc_dropTop : s.dropTop.pc = s.pc := rfl
@[simp] theorem State.pc_portWrite (p : Word) (v : Byte) : (s.portWrite p v).pc = s.pc := rfl
@[simp] theorem State.pc_drawFlag (g : Flag) : (s.drawFlag g).pc = s.pc := s.assign_pc _
@[simp] theorem State.pc_drawYX : s.drawYX.pc = s.pc := by simp [State.drawYX]
@[simp] theorem State.pc_modifyLoc (z : Loc8) (f : Byte → Byte × FlagSet) : (s.modifyLoc z f).pc = s.pc := by
  simp [State.modifyLoc]
@[simp] theorem State.pc_modifyAt (a : Word) (f : Byte → Byte × FlagSet) : (s.modifyAt a f).pc = s.pc := by
  simp [State.modifyAt]
@[simp] theorem State.pc_modifyHalf (x : Idx) (w : Half) (f : Byte → Byte × FlagSet) :
    (s.modifyHalf x w f).pc = s.pc := by simp [State.modifyHalf]
@[simp] theorem State.pc_rotA (f : RotFn) : (s.rotA f).pc = s.pc := by simp [State.rotA]
@[simp] theorem State.pc_rotLoc (f : RotFn) (z : Loc8) : (s.rotLoc f z).pc = s.pc := by simp [State.rotLoc]
@[simp] theorem State.pc_rotAt (f : RotFn) (a : Word) (c : Option Reg8) : (s.rotAt f a c).pc = s.pc := by
  simp [State.rotAt]
@[simp] theorem State.pc_storeCopy (a : Word) (v : Byte) (c : Option Reg8) : (s.storeCopy a v c).pc = s.pc := by
  simp [State.storeCopy]
@[simp] theorem State.pc_ldIteration (d : Dir) : (s.ldIteration d).pc = s.pc := by simp [State.ldIteration]
@[simp] theorem State.pc_cpIteration (d : Dir) : (s.cpIteration d).pc = s.pc := by simp [State.cpIteration]
@[simp] theorem State.pc_inIteration (d : Dir) : (s.inIteration d).pc = s.pc := by simp [State.inIteration]
@[simp] theorem State.pc_outIteration (d : Dir) : (s.outIteration d).pc = s.pc := by simp [State.outIteration]

end

/-- A rule without a PC rule of its own ends in the default PC update, by its instruction's length; what stands before
that leaves PC alone. -/
theorem exec_pc_of_rule {i : Instr} (h : i.ruleOf = i) (hp : i.setsPc = false) (s : State) :
    Completes (exec i s) fun t => t.pc = s.pc + BitVec.ofNat 16 i.length := by
  cases i
  case xyFallThrough => cases h
  all_goals cases hp
  all_goals refine ⟨_, rfl, ?_⟩
  all_goals simp [Instr.length.eq_def]

/-- A fall-through is its inner instruction at the next address (R98, R359). -/
theorem exec_xyFallThrough (x : Idx) {inner : Instr} (h : inner.isMain = true) (s : State) :
    exec (.xyFallThrough x inner) s = exec inner (s.advance 1) := execMain_eq_exec h _

/-- PC after any instruction without a PC rule of its own (R95). -/
theorem exec_pc {i : Instr} (hw : i.wellFormed = true) (hp : i.ruleOf.setsPc = false) (s : State) :
    Completes (exec i s) fun t => t.pc = s.pc + BitVec.ofNat 16 i.length := by
  obtain h | ⟨x, inner, rfl, hm⟩ := Instr.ruleOf_cases hw
  · exact exec_pc_of_rule h (h ▸ hp) s
  · rw [exec_xyFallThrough x hm]
    obtain ⟨t, ht, hpc⟩ := exec_pc_of_rule (Instr.ruleOf_of_isMain hm) hp (s.advance 1)
    refine ⟨t, ht, hpc.trans ?_⟩
    rw [State.pc_advance, Instr.length, BitVec.ofNat_add, BitVec.add_assoc]
    rfl

/-- Settles O10: the sum of PC and the length is taken in 16 bits. -/
theorem pcAdvancesByLength : Obligations.PcAdvancesByLength := by
  intro i s hw hp
  obtain ⟨t, ht, hpc⟩ := exec_pc hw hp s
  refine ⟨t, ht, (congrArg BitVec.toNat hpc).trans ?_⟩
  simp [BitVec.toNat_add]

/-- Settles O21: an unprefixed row is run by `exec_main` as by `exec`, at PC + 1. -/
theorem fallThroughRunsAtNextByte : Obligations.FallThroughRunsAtNextByte := by
  refine ⟨fun x inner s hf => ?_, fun x s => ⟨(s.advance 1).setHalted true, rfl, rfl, rfl⟩⟩
  have hm := isMain_of_fallsThrough inner hf
  obtain ⟨t, ht, -⟩ := execMain_answers inner (s.advance 1) hm
  exact ⟨t, ht, (exec_xyFallThrough x hm s).symm.trans ht⟩

/-! ## Jumps -/

/-- A jump changes PC and nothing else. -/
theorem State.jump_jumped (s : State) (target : Word) : Jumped s target (s.jump target) :=
  ⟨rfl, (Touch.Frame.refl _ s).jump target⟩

/-- An instruction of n bytes that does nothing else is a jump to the next address (R95). -/
theorem State.advance_jumped (s : State) (n : Word) : Jumped s (s.pc + n) (s.advance n) := s.jump_jumped _

/-- An instruction under a condition: one state when it is met, another when it is not (R86). -/
theorem completes_cond (s : State) (cc : Cond) {t u : State} {p q : State → Prop} (hp : p t) (hq : q u) :
    (s.meets cc → Completes (.next (if s.cond cc then t else u)) p) ∧
      (¬s.meets cc → Completes (.next (if s.cond cc then t else u)) q) := by
  rw [← s.cond_iff cc]
  exact ⟨fun h => ⟨t, by rw [if_pos h], hp⟩, fun h => ⟨u, by rw [if_neg h], hq⟩⟩

/-- Settles O41: only PC is written. -/
theorem noOperations : Obligations.NoOperations := fun s =>
  ⟨⟨_, rfl, s.advance_jumped 1⟩, fun _ => ⟨_, rfl, s.advance_jumped 2⟩, fun _ => ⟨_, rfl, s.advance_jumped 2⟩,
    fun _ => ⟨_, rfl, s.advance_jumped 2⟩, fun _ _ => ⟨_, rfl, s.advance_jumped 2⟩,
    fun _ => ⟨_, rfl, s.advance_jumped 2⟩, fun _ _ => ⟨_, rfl, s.advance_jumped 1⟩,
    fun _ => ⟨_, rfl, s.advance_jumped 1⟩⟩

/-- Settles O39: each is a jump to its target, or to the next address when its condition is not met. -/
theorem absoluteJumps : Obligations.AbsoluteJumps := fun s =>
  ⟨fun nn => ⟨_, rfl, s.jump_jumped nn⟩,
    fun cc nn => completes_cond s cc (s.jump_jumped nn) (s.advance_jumped 3),
    ⟨_, rfl, s.jump_jumped _⟩, fun _ => ⟨_, rfl, s.jump_jumped _⟩⟩

/-- The target of a relative jump, in arithmetic (R176). -/
theorem State.relTarget_eq (s : State) (e : Byte) : s.relTarget e = relativeTo s.pc e := by
  have he : BitVec.ofInt 16 e.toInt = e.signExtend 16 := rfl
  rw [State.relTarget, relativeTo, BitVec.ofInt_add, BitVec.ofInt_add, he]
  simp [sext16]

theorem pred_eq_zero_iff (b : Byte) : b - 1 = 0 ↔ b.toNat = 1 := by
  have := b.isLt
  rw [BitVec.toNat_eq, byte_pred]
  show _ = 0 ↔ _
  omega

/-- DJNZ (R175): B is counted down, and the jump is taken unless B was 1. -/
theorem execDjnz_spec (e : Byte) (s : State) :
    Completes (execDjnz e s) fun t =>
      t.getReg .b = s.getReg .b - 1 ∧ t.pc = (if (s.getReg .b).toNat = 1 then s.pc + 2 else s.relTarget e) ∧
        Touch.Frame { regs := [.b] } s t := by
  have hf : Touch.Frame { regs := [.b] } s (s.setReg .b (s.getReg .b - 1)) :=
    (Touch.Frame.refl _ s).setReg (List.mem_singleton.2 rfl) _
  simp only [execDjnz, State.getReg_setReg_same, bne_iff_ne, ne_eq, pred_eq_zero_iff, ite_not]
  by_cases h : (s.getReg .b).toNat = 1
  · rw [if_pos h, if_pos h]
    exact ⟨_, rfl, by simp, by simp, hf.advance 2⟩
  · rw [if_neg h, if_neg h]
    exact ⟨_, rfl, by simp, by simp, hf.jump _⟩

/-- Settles O40: the target is the model's `relTarget`, and JR and JR cc write PC only. -/
theorem relativeJumps : Obligations.RelativeJumps := by
  intro s e
  have hj : Jumped s (relativeTo s.pc e) (s.jump (s.relTarget e)) := s.relTarget_eq e ▸ s.jump_jumped _
  refine ⟨⟨_, rfl, hj⟩, fun cc => completes_cond s cc hj (s.advance_jumped 2), ?_⟩
  obtain ⟨t, ht, hb, hpc, hf⟩ := execDjnz_spec e s
  exact ⟨t, ht, by rw [hb, byte_pred], by rw [hpc, s.relTarget_eq], hf⟩

/-! ## Calls and returns -/

/-- Settles O37: the return address is popped, and RETN and RETI copy IFF2. -/
theorem returns : Obligations.Returns := fun s =>
  ⟨⟨_, rfl, s.returnPop_spec⟩, fun cc => completes_cond s cc s.returnPop_spec (s.advance_jumped 1),
    fun _ => ⟨_, rfl, s.returnFromInterrupt_spec⟩, _, rfl, s.returnFromInterrupt_spec⟩

/-- Settles O38: a call is a push and a jump. -/
theorem calls : Obligations.Calls := fun s =>
  ⟨fun nn => ⟨_, rfl, s.push16_spec _ nn⟩,
    fun cc nn => completes_cond s cc (s.push16_spec _ nn) (s.advance_jumped 3), fun _ => ⟨_, rfl, s.push16_spec _ _⟩⟩

end Sys2Proof.Machine
end

section
/-! PROOFS of the 8-bit arithmetic and logic, of DAA, and of decimal arithmetic with it. -/

namespace Sys2Proof.Machine

/-! ## The accumulator operations -/

/-- Settles O22: every form is `addA` or `adcA` on its operand byte. -/
theorem addAndAdc : Obligations.AddAndAdc := fun s =>
  ⟨fun z => ⟨_, rfl, s.getLoc_eq z ▸ s.addA_spec _ 1⟩, fun n => ⟨_, rfl, s.addA_spec n 2⟩,
    fun x w => ⟨_, rfl, s.addA_spec (s.getHalf x w) 2⟩, fun x d => ⟨_, rfl, s.addA_spec (s.read (s.idxAddr x d)) 3⟩,
    fun z => ⟨_, rfl, s.getLoc_eq z ▸ s.adcA_spec _ 1⟩, fun n => ⟨_, rfl, s.adcA_spec n 2⟩,
    fun x w => ⟨_, rfl, s.adcA_spec (s.getHalf x w) 2⟩, fun x d => ⟨_, rfl, s.adcA_spec (s.read (s.idxAddr x d)) 3⟩⟩

/-- Settles O23: every form is `subA` or `sbcA` on its operand byte. -/
theorem subAndSbc : Obligations.SubAndSbc := fun s =>
  ⟨fun z => ⟨_, rfl, s.getLoc_eq z ▸ s.subA_spec _ 1⟩, fun n => ⟨_, rfl, s.subA_spec n 2⟩,
    fun x w => ⟨_, rfl, s.subA_spec (s.getHalf x w) 2⟩, fun x d => ⟨_, rfl, s.subA_spec (s.read (s.idxAddr x d)) 3⟩,
    fun z => ⟨_, rfl, s.getLoc_eq z ▸ s.sbcA_spec _ 1⟩, fun n => ⟨_, rfl, s.sbcA_spec n 2⟩,
    fun x w => ⟨_, rfl, s.sbcA_spec (s.getHalf x w) 2⟩, fun x d => ⟨_, rfl, s.sbcA_spec (s.read (s.idxAddr x d)) 3⟩⟩

/-- Settles O24: every form writes its result and `logicFlags` of it, with H for AND only. -/
theorem andXorOr : Obligations.AndXorOr := fun s =>
  ⟨fun z => ⟨_, rfl, s.getLoc_eq z ▸ s.logic_spec _ true 1⟩, fun _ => ⟨_, rfl, s.logic_spec _ true 2⟩,
    fun _ _ => ⟨_, rfl, s.logic_spec _ true 2⟩, fun _ _ => ⟨_, rfl, s.logic_spec _ true 3⟩,
    fun z => ⟨_, rfl, s.getLoc_eq z ▸ s.logic_spec _ false 1⟩, fun _ => ⟨_, rfl, s.logic_spec _ false 2⟩,
    fun _ _ => ⟨_, rfl, s.logic_spec _ false 2⟩, fun _ _ => ⟨_, rfl, s.logic_spec _ false 3⟩,
    fun z => ⟨_, rfl, s.getLoc_eq z ▸ s.logic_spec _ false 1⟩, fun _ => ⟨_, rfl, s.logic_spec _ false 2⟩,
    fun _ _ => ⟨_, rfl, s.logic_spec _ false 2⟩, fun _ _ => ⟨_, rfl, s.logic_spec _ false 3⟩⟩

/-- Settles O25: every form is `cpA` on its operand byte. -/
theorem compare : Obligations.Compare := fun s =>
  ⟨fun z => ⟨_, rfl, s.getLoc_eq z ▸ s.cpA_spec _ 1⟩, fun n => ⟨_, rfl, s.cpA_spec n 2⟩,
    fun x w => ⟨_, rfl, s.cpA_spec (s.getHalf x w) 2⟩, fun x d => ⟨_, rfl, s.cpA_spec (s.read (s.idxAddr x d)) 3⟩⟩

/-! ## INC and DEC of a byte -/

/-- INC of r8[y]: the operand read and the operand written are one destination. -/
theorem State.incR_spec (s : State) (y : Loc8) : Incremented s (s.target y) 1 ((s.modifyLoc y inc8).advance 1) := by
  rw [State.modifyLoc, s.getLoc_eq y]
  exact .of_write (s.value_setLoc y _) (s.pc_setLoc y _) (s.frame_setLoc y _ _)

/-- DEC of r8[y], likewise. -/
theorem State.decR_spec (s : State) (y : Loc8) : Decremented s (s.target y) 1 ((s.modifyLoc y dec8).advance 1) := by
  rw [State.modifyLoc, s.getLoc_eq y]
  exact .of_write (s.value_setLoc y _) (s.pc_setLoc y _) (s.frame_setLoc y _ _)

/-- Settles O26: each writes its destination and then the flags. -/
theorem incDecByte : Obligations.IncDecByte := fun s =>
  ⟨fun y => ⟨_, rfl, s.incR_spec y⟩,
    fun x w => ⟨_, rfl, .of_write (s.value_setHalf x w _) (s.pc_setHalf x w _) (s.frame_setHalf x w _ _)⟩,
    fun _ _ => ⟨_, rfl, .of_write (s.read_write_same _ _) rfl (s.frame_write _ _ _)⟩,
    fun y => ⟨_, rfl, s.decR_spec y⟩,
    fun x w => ⟨_, rfl, .of_write (s.value_setHalf x w _) (s.pc_setHalf x w _) (s.frame_setHalf x w _ _)⟩,
    fun _ _ => ⟨_, rfl, .of_write (s.read_write_same _ _) rfl (s.frame_write _ _ _)⟩⟩

/-! ## DAA -/

/-- The correction that DAA makes to the number a, from H and C (R131). -/
def daaCorrection (a : Nat) (h c : Bool) : Nat :=
  (if h || decide (9 < a % 16) then 6 else 0) + (if c || decide (0x99 < a) then 0x60 else 0)

/-- A flag that the assignment of an accumulator operation lists. -/
theorem State.flag_toA_advance {s : State} {p : Byte × FlagSet} {g : Flag} {v : Bool} {n : Word}
    (h : p.2.get g = some v) : ((s.toA p).advance n).flag g = v := by simp [h]

/-- S, Z, Y, X after an accumulator operation that takes them from its result. -/
theorem State.hasSzyx_toA_advance (s : State) (p : Byte × FlagSet) (n : Word) (hs : p.2.s = (szyx p.1).s)
    (hz : p.2.z = (szyx p.1).z) (hy : p.2.y = (szyx p.1).y) (hx : p.2.x = (szyx p.1).x) :
    ((s.toA p).advance n).HasSzyx (((s.toA p).advance n).getReg .a) := by
  rw [State.hasSzyx_advance, State.getReg_advance, State.getReg_toA]
  exact s.hasSzyx_toA p hs hz hy hx

/-- Settles O27: A and the flags are those of `daa` (R131), which assigns every flag but N. -/
theorem decimalAdjust : Obligations.DecimalAdjust := by
  intro s
  obtain ⟨hres, hhalf, hcarry⟩ := daa_spec (s.getReg .a) (s.flag .n) (s.flag .h) (s.flag .c)
  refine ⟨_, rfl, by simpa using hres, s.hasSzyx_toA_advance _ 1 rfl rfl rfl rfl, State.flag_toA_advance hhalf, ?_,
    State.flag_toA_advance hcarry, by simp, ?_⟩
  · rw [State.getReg_advance, State.getReg_toA, ← parity_eq_evenOnes]
    exact State.flag_toA_advance rfl
  · refine ((Touch.Frame.refl _ s).toA (List.mem_singleton.2 rfl) (FlagSet.mem_of_isSome fun g hg => ?_)).advance 1
    cases g with
    | n => rfl
    | _ => simp at hg

/-- A and C after DAA, in numbers. -/
theorem execDaa_result (s : State) :
    Completes (exec .daa s) fun t =>
      (t.getReg .a).toNat =
        (if s.flag .n then
          ((s.getReg .a).toNat + 256 - daaCorrection (s.getReg .a).toNat (s.flag .h) (s.flag .c)) % 256
        else ((s.getReg .a).toNat + daaCorrection (s.getReg .a).toNat (s.flag .h) (s.flag .c)) % 256) ∧
      t.flag .c = (s.flag .c || decide (0x99 < (s.getReg .a).toNat)) := by
  obtain ⟨t, ht, ha, -, -, -, hc, -⟩ := decimalAdjust s
  exact ⟨t, ht, ha, hc⟩

/-! ## Decimal arithmetic -/

/-- A number under 100 in BCD: its two digits in the two nibbles of a byte. -/
def bcd (x : Nat) : Nat := x / 10 * 16 + x % 10

theorem bcd_digits {i j : Nat} (hj : j < 10) : bcd (10 * i + j) = 16 * i + j := by
  unfold bcd; omega

theorem bcd_lt {x : Nat} (hx : x < 100) : bcd x < 256 := by
  unfold bcd; omega

theorem bcd_mod (z : Nat) : bcd (z % 100) = z % 100 / 10 * 16 + z % 10 := by
  unfold bcd; omega

theorem exists_digits {x : Nat} (hx : x < 100) : ∃ i j, i < 10 ∧ j < 10 ∧ x = 10 * i + j :=
  ⟨x / 10, x % 10, by omega, by omega, by omega⟩

/-- Two digits and a carry in are a digit m and a carry u. -/
theorem exists_digit_carry {a b c : Nat} (ha : a < 10) (hb : b < 10) (hc : c ≤ 1) :
    ∃ u m, u ≤ 1 ∧ m < 10 ∧ a + b + c = 10 * u + m :=
  ⟨(a + b + c) / 10, (a + b + c) % 10, by omega, by omega, by omega⟩

/-- A digit less a digit and a borrow in is a digit m and a borrow u. -/
theorem exists_digit_borrow {a b c : Nat} (ha : a < 10) (hb : b < 10) (hc : c ≤ 1) :
    ∃ u m, u ≤ 1 ∧ m < 10 ∧ a + 10 * u = b + c + m :=
  ⟨1 - (a + 10 - b - c) / 10, (a + 10 - b - c) % 10, by omega, by omega, by omega⟩

/-- The correction is 6 for a decimal carry u out of the low digit and 0x60 for one, v, out of the high digit. -/
theorem daaCorrection_eq {a u v : Nat} {h c : Bool} (hu : u ≤ 1) (hv : v ≤ 1)
    (hlow : h = true ∨ 9 < a % 16 ↔ u = 1) (hhigh : c = true ∨ 0x99 < a ↔ v = 1) :
    daaCorrection a h c = 6 * u + 0x60 * v := by
  simp only [daaCorrection, Bool.or_eq_true, decide_eq_true_iff, hlow, hhigh]
  split_ifs <;> omega

/-- DAA sees the decimal carry v of a binary sum t whose decimal digits are n and m. -/
theorem high_carry_iff {t u v m n : Nat} (hu : u ≤ 1) (hv : v ≤ 1) (hm : m < 10) (hn : n < 10)
    (ht : t + 6 * u = 160 * v + 16 * n + m) : 255 < t ∨ 0x99 < t % 256 ↔ v = 1 := by omega

/-- DAA sees the decimal borrow v of a binary difference t whose decimal digits are n and m. -/
theorem high_borrow_iff {t : Int} {u v m n : Nat} (hu : u ≤ 1) (hv : v ≤ 1) (hm : m < 10) (hn : n < 10)
    (hun : u + n < 10 + 10 * v) (ht : t + 160 * v = 16 * n + m + 6 * u) : t < 0 ∨ 0x99 < t % 256 ↔ v = 1 := by
  interval_cases u <;> omega

/-- DAA after a binary addition of BCD numbers. -/
theorem daa_bcd_add {x y c r : Nat} (hx : x < 100) (hy : y < 100) (hc : c ≤ 1)
    (hr : r = (bcd x + bcd y + c) % 256) :
    let carry := decide (255 < bcd x + bcd y + c)
    let half := decide (15 < bcd x % 16 + bcd y % 16 + c)
    (r + daaCorrection r half carry) % 256 = bcd ((x + y + c) % 100) ∧
      (carry || decide (0x99 < r)) = decide (100 ≤ x + y + c) := by
  intro carry half
  obtain ⟨i, j, hi, hj, rfl⟩ := exists_digits hx
  obtain ⟨k, l, hk, hl, rfl⟩ := exists_digits hy
  obtain ⟨u, m, hu, hm, hlow⟩ := exists_digit_carry hj hl hc
  obtain ⟨v, n, hv, hn, hhigh⟩ := exists_digit_carry hi hk hu
  have hmod : (10 * i + j + (10 * k + l) + c) % 100 = 10 * n + m := by omega
  simp only [half, carry, bcd_digits hj, bcd_digits hl] at hr ⊢
  have hdaa : 255 < 16 * i + j + (16 * k + l) + c ∨ 0x99 < r ↔ v = 1 :=
    hr ▸ high_carry_iff hu hv hm hn (by omega)
  rw [daaCorrection_eq hu hv (by rw [decide_eq_true_iff]; omega) (by rw [decide_eq_true_iff]; exact hdaa), hmod,
    bcd_digits hm, ← Bool.decide_or, decide_eq_decide, hdaa]
  omega

/-- DAA after a binary subtraction of BCD numbers. -/
theorem daa_bcd_sub {x y c r : Nat} (hx : x < 100) (hy : y < 100) (hc : c ≤ 1)
    (hr : (r : Int) = ((bcd x : Int) - bcd y - c) % 256) :
    let borrow := decide (bcd x < bcd y + c)
    let half := decide (bcd x % 16 < bcd y % 16 + c)
    (r + 256 - daaCorrection r half borrow) % 256 = bcd ((x + 100 - y - c) % 100) ∧
      (borrow || decide (0x99 < r)) = decide (x < y + c) := by
  intro borrow half
  obtain ⟨i, j, hi, hj, rfl⟩ := exists_digits hx
  obtain ⟨k, l, hk, hl, rfl⟩ := exists_digits hy
  obtain ⟨u, m, hu, hm, hlow⟩ := exists_digit_borrow hj hl hc
  obtain ⟨v, n, hv, hn, hhigh⟩ := exists_digit_borrow hi hk hu
  have hmod : (10 * i + j + 100 - (10 * k + l) - c) % 100 = 10 * n + m := by omega
  simp only [half, borrow, bcd_digits hj, bcd_digits hl] at hr ⊢
  have hdaa : 16 * i + j < 16 * k + l + c ∨ 0x99 < r ↔ v = 1 := by
    rw [← high_borrow_iff (t := (16 * i + j : Nat) - (16 * k + l : Nat) - c) hu hv hm hn (by omega) (by omega), ← hr]
    omega
  rw [daaCorrection_eq hu hv (by rw [decide_eq_true_iff]; omega) (by rw [decide_eq_true_iff]; exact hdaa), hmod,
    bcd_digits hm, ← Bool.decide_or, decide_eq_decide, hdaa]
  omega

/-- Settles O28: the binary ADC or SBC leaves its carries in H and C, from which DAA finds the decimal ones. -/
theorem decimalAdjustAddsAndSubtracts : Obligations.DecimalAdjustAddsAndSubtracts := by
  intro s x y hx hy hax v c
  have ha : (s.getReg .a).toNat = bcd x := hax ▸ Nat.mod_eq_of_lt (bcd_lt hx)
  have hv : v.toNat = bcd y := Nat.mod_eq_of_lt (bcd_lt hy)
  have hc : c ≤ 1 := Bool.toNat_le _
  refine ⟨⟨_, rfl, ?_⟩, _, rfl, ?_⟩
  · have k := s.adcA_spec v 2
    generalize (s.adcA v).advance 2 = t at k
    obtain ⟨u, hu, hua, huc⟩ := execDaa_result t
    obtain ⟨hres, hcarry⟩ := daa_bcd_add hx hy hc (ha ▸ hv ▸ k.result)
    rw [k.addition, k.half, k.carry, ha, hv] at hua
    rw [k.carry, ha, hv] at huc
    exact ⟨u, hu, hua.trans (hres.trans (bcd_mod _)), huc.trans hcarry⟩
  · have k := s.sbcA_spec v 2
    generalize (s.sbcA v).advance 2 = t at k
    obtain ⟨u, hu, hua, huc⟩ := execDaa_result t
    obtain ⟨hres, hcarry⟩ := daa_bcd_sub hx hy hc (ha ▸ hv ▸ k.result)
    rw [k.subtraction, k.half, k.carry, ha, hv] at hua
    rw [k.carry, ha, hv] at huc
    exact ⟨u, hu, hua.trans (hres.trans (bcd_mod _)), huc.trans hcarry⟩

/-! ## NEG and CPL -/

/-- Settles O29: NEG is the subtraction of A from 0, and CPL assigns Y, H, X and N. -/
theorem negateAndComplement : Obligations.NegateAndComplement := by
  intro s
  obtain ⟨hres, hhalf, hover, hcarry⟩ := neg_spec (s.getReg .a)
  refine ⟨fun y => ⟨_, rfl, ?_⟩, _, rfl, ?_⟩
  · exact ⟨by simpa using hres, s.hasSzyx_toA_advance _ 2 rfl rfl rfl rfl, State.flag_toA_advance hhalf,
      State.flag_toA_advance hover, State.flag_toA_advance rfl, State.flag_toA_advance hcarry, by simp,
      ((Touch.Frame.refl _ s).toA (List.mem_singleton.2 rfl) fun g _ => mem_allFlags g).advance 2⟩
  · refine ⟨by simp [cpl_result], ?_, ?_, State.flag_toA_advance rfl, State.flag_toA_advance rfl, by simp,
      ((Touch.Frame.refl _ s).toA (List.mem_singleton.2 rfl) (FlagSet.mem_of_isSome fun g hg => ?_)).advance 1⟩
    iterate 2 rw [State.getReg_advance, State.getReg_toA]; exact State.flag_toA_advance rfl
    cases g with
    | s | z | pv | c => rfl
    | _ => simp at hg

end Sys2Proof.Machine
end

section
/-! PROOFS of the rotates, the bit tests, the 16-bit arithmetic, and the block loads and compares. -/

namespace Sys2Proof.Machine

/-! ## Rotates and shifts -/

/-- Settles O45: each is `rotLoc` with its rotate or shift. -/
theorem rotatesAndShifts : Obligations.RotatesAndShifts := fun s z =>
  ⟨⟨_, rfl, s.rotLoc_spec .rlc z 2⟩, ⟨_, rfl, s.rotLoc_spec .rrc z 2⟩, ⟨_, rfl, s.rotLoc_spec .rl z 2⟩,
    ⟨_, rfl, s.rotLoc_spec .rr z 2⟩, ⟨_, rfl, s.rotLoc_spec .sla z 2⟩, ⟨_, rfl, s.rotLoc_spec .sra z 2⟩,
    ⟨_, rfl, s.rotLoc_spec .sll z 2⟩, _, rfl, s.rotLoc_spec .srl z 2⟩

/-- Settles O46: each is `rotAt` with its rotate or shift. -/
theorem indexedRotatesAndShifts : Obligations.IndexedRotatesAndShifts := fun s x d copy =>
  have h (f : Rot) := s.rotAt_spec f (s.idxAddr x d) copy 4
  ⟨⟨_, rfl, h .rlc⟩, ⟨_, rfl, h .rrc⟩, ⟨_, rfl, h .rl⟩, ⟨_, rfl, h .rr⟩, ⟨_, rfl, h .sla⟩, ⟨_, rfl, h .sra⟩,
    ⟨_, rfl, h .sll⟩, _, rfl, h .srl⟩

/-- Settles O47: each is `rotA` with its rotate. -/
theorem accumulatorRotates : Obligations.AccumulatorRotates := fun s =>
  ⟨⟨_, rfl, s.rotA_spec .rlc⟩, ⟨_, rfl, s.rotA_spec .rrc⟩, ⟨_, rfl, s.rotA_spec .rl⟩, _, rfl, s.rotA_spec .rr⟩

/-- RRD and RLD write the byte at HL, then A and the flags of it (R140). -/
theorem State.nibbles_spec (s : State) (v an : Byte) :
    let t := ((s.write s.hl v).toA (an, szpFlags an)).advance 2
    t.getReg .a = an ∧ t.read s.hl = v ∧ t.HasSzp an ∧ t.pc = s.pc + 2 ∧
      Touch.Frame { regs := [.a], flags := notC, stored := [s.hl] } s t :=
  ⟨by simp, by simp [State.toA, State.setA], State.hasSzp_assign _ an 2, by simp,
    (((Touch.Frame.refl _ s).write (List.mem_singleton.2 rfl) v).toA (List.mem_singleton.2 rfl)
      (isSome_notC rfl)).advance 2⟩

/-- Settles O50: the new A and the byte stored are made of a nibble of each of the two. -/
theorem nibbleRotates : Obligations.NibbleRotates := by
  intro s
  refine ⟨⟨_, rfl, ?_⟩, _, rfl, ?_⟩
  · obtain ⟨ha, hv, hf, hrest⟩ := s.nibbles_spec (((s.getReg .a &&& 0x0F) <<< 4) ||| (s.read s.hl >>> 4))
      ((s.getReg .a &&& 0xF0) ||| (s.read s.hl &&& 0x0F))
    exact ⟨(congrArg BitVec.toNat ha).trans (highNibble_or_low _ _),
      (congrArg BitVec.toNat hv).trans (lowNibble_up_or_high _ _), ha.symm ▸ hf, hrest⟩
  · obtain ⟨ha, hv, hf, hrest⟩ := s.nibbles_spec ((s.read s.hl <<< 4) ||| (s.getReg .a &&& 0x0F))
      ((s.getReg .a &&& 0xF0) ||| (s.read s.hl >>> 4))
    exact ⟨(congrArg BitVec.toNat ha).trans (highNibble_or_high _ _),
      (congrArg BitVec.toNat hv).trans (up_or_lowNibble _ _), ha.symm ▸ hf, hrest⟩

/-! ## BIT -/

/-- S after BIT is bit 7, when that is the bit tested (R130). -/
theorem bitFlags_sign (b : BitVec 3) (v xy : Byte) :
    (bitFlags b v xy).s = some (decide (b.toNat = 7) && v.getLsbD 7) := by
  have hb : (b == 7) = decide (b.toNat = 7) := by rw [Bool.eq_iff_iff]; simp [BitVec.toNat_eq]
  rw [← hb]
  rfl

/-- A state that has the flags of `bitFlags`, whatever its Y and X, is what BIT leaves. -/
theorem BitTested.of_flags {s t : State} {b : BitVec 3} {v xy : Byte} {n : Word} {sp : List Special}
    (hf : ∀ g, g ≠ .y → g ≠ .x → t.flag g = (s.assign (bitFlags b v xy)).flag g) (hp : t.pc = s.pc + n)
    (hfr : Touch.Frame { flags := notC, special := sp } s t) : BitTested s b v n sp t where
  zero := by simp [hf, FlagSet.get, bitFlags]
  pv := by simp [hf, FlagSet.get, bitFlags]
  sign := by simp [hf, FlagSet.get, bitFlags_sign]
  half := by simp [hf, FlagSet.get, bitFlags]
  addition := by simp [hf, FlagSet.get, bitFlags]
  pc := hp
  frame := hfr

/-- BIT with Y and X from the byte xy, for BIT b,r and BIT b,(IX+d). -/
theorem State.assign_bitFlags_spec (s : State) (b : BitVec 3) (v xy : Byte) (n : Word) :
    let t := (s.assign (bitFlags b v xy)).advance n
    BitTested s b v n [] t ∧ t.flag .y = xy.getLsbD 5 ∧ t.flag .x = xy.getLsbD 3 :=
  ⟨.of_flags (xy := xy) (fun _ _ _ => by simp) (by simp)
      (((Touch.Frame.refl _ s).assign _ (isSome_notC rfl)).advance n),
    by simp [FlagSet.get, bitFlags], by simp [FlagSet.get, bitFlags]⟩

theorem FlagSet.get_only_of_ne {g k : Flag} (h : k ≠ g) (v : Bool) : (FlagSet.only g v).get k = none := by
  cases g <;> cases k <;> first | rfl | exact absurd rfl h

/-- Drawing a flag changes no other flag (R146). -/
theorem State.flag_drawFlag_of_ne (s : State) {g k : Flag} (h : k ≠ g) : (s.drawFlag g).flag k = s.flag k := by
  simp [State.drawFlag, FlagSet.get_only_of_ne h]

theorem State.flag_drawYX (s : State) {g : Flag} (hy : g ≠ .y) (hx : g ≠ .x) : s.drawYX.flag g = s.flag g :=
  (State.flag_drawFlag_of_ne _ hx).trans (s.flag_drawFlag_of_ne hy)

theorem hi8_getLsbD (v : Word) {k : Nat} (hk : k < 8) : (hi8 v).getLsbD k = v.getLsbD (8 + k) := by
  simp [hi8, hk]

/-- Settles O48: the three forms differ in where Y and X come from. -/
theorem bitTests : Obligations.BitTests := by
  intro s b
  refine ⟨fun r => ⟨_, rfl, s.assign_bitFlags_spec b _ _ 2⟩, ⟨_, rfl, ?_⟩, fun x d z => ⟨_, rfl, ?_⟩⟩
  · refine .of_flags (xy := s.read s.hl) (fun g hy hx => by rw [State.flag_advance, State.flag_drawYX _ hy hx])
      (by simp) ?_
    exact ((((Touch.Frame.refl _ s).assign _ (isSome_notC rfl)).drawFlag .y (by decide) (by simp)).drawFlag .x
      (by decide) (by simp)).advance 2
  · obtain ⟨ht, hy, hx⟩ := s.assign_bitFlags_spec b (s.read (s.idxAddr x d)) (hi8 (s.idxAddr x d)) 4
    exact ⟨ht, hy.trans (hi8_getLsbD _ (by decide)), hx.trans (hi8_getLsbD _ (by decide))⟩

/-! ## 16-bit arithmetic -/

/-- Writing add16's result to a word destination and then its flags is a word ADD. -/
theorem WideAdded.of_write {s u : State} {g : WideTarget} {a b res n : Word} (hr : res = (add16 a b).1)
    (hv : g.Holds res ((u.assign (add16 a b).2).advance n)) (hp : u.pc = s.pc)
    (hf : (g.touch [.y, .h, .x, .n, .c]).Frame s u) :
    WideAdded s g res a b n ((u.assign (add16 a b).2).advance n) where
  holds := hv
  result := by simp [hr, add16]
  y := by simp [hr, FlagSet.get, add16]
  x := by simp [hr, FlagSet.get, add16]
  half := by simp [FlagSet.get, add16_half]
  addition := by simp [FlagSet.get, add16]
  carry := by simp [FlagSet.get, add16]
  pc := by simp [hp]
  frame := by
    refine (hf.assign _ (FlagSet.mem_of_isSome fun k hk => ?_)).advance n
    rw [WideTarget.flags_touch] at hk
    cases k with
    | s | z | pv => rfl
    | _ => simp at hk

theorem State.hl_toHl_advance (s : State) (p : Word × FlagSet) (n : Word) : ((s.toHl p).advance n).hl = p.1 := by
  simp [State.toHl, State.advance]

/-- Settles O51: the sum is written to HL or the index register, and S, Z and PV are not assigned. -/
theorem wordAdd : Obligations.WordAdd := fun s =>
  ⟨fun _ => ⟨_, rfl, .of_write (s.hl_toHl_advance _ 1) rfl (by simp) (s.frame_setPair .hl _ _)⟩,
    fun x _ => ⟨_, rfl, .of_write (by simp) rfl (by simp) (s.frame_setIdx x _ _)⟩⟩

/-- S, Z, Y, X after a 16-bit ADC or SBC, from the result (R126, R127). -/
theorem State.hasWideSzyx_toHl (s : State) (p : Word × FlagSet) (n : Word) (hs : p.2.s = some (p.1.getLsbD 15))
    (hz : p.2.z = some (p.1 == 0)) (hy : p.2.y = some (p.1.getLsbD 13)) (hx : p.2.x = some (p.1.getLsbD 11)) :
    ((s.toHl p).advance n).HasWideSzyx p.1 := by
  rw [word_bit15] at hs
  rw [word_eq_zero] at hz
  constructor <;> simp [State.toHl, FlagSet.get, hs, hz, hy, hx]

/-- A flag that a 16-bit ADC or SBC assigns. -/
theorem State.flag_toHl_advance {s : State} {p : Word × FlagSet} {g : Flag} {v : Bool} {n : Word}
    (h : p.2.get g = some v) : ((s.toHl p).advance n).flag g = v := by simp [State.toHl, h]

theorem State.frame_toHl (s : State) (p : Word × FlagSet) (n : Word) :
    Touch.Frame { regs := [.h, .l], flags := allFlags } s ((s.toHl p).advance n) :=
  (((Touch.Frame.refl _ s).setHl (by simp) (by simp) _).assign _ fun g _ => mem_allFlags g).advance n

theorem sbc16_borrow (a b : Word) (c : Bool) :
    (sbc16 a b c).2.c = some (decide (a.toNat < b.toNat + c.toNat)) := by
  simp only [sbc16, Option.some.injEq, decide_eq_decide]; omega

theorem State.adcHl_spec (s : State) (b : Word) :
    WideCarried s b ((s.toHl (adc16 s.hl b (s.flag .c))).advance 2) where
  result := by rw [State.hl_toHl_advance, adc16_result]
  szyx := by rw [State.hl_toHl_advance]; exact s.hasWideSzyx_toHl _ 2 rfl rfl rfl rfl
  half := State.flag_toHl_advance (adc16_half _ _ _)
  overflow := State.flag_toHl_advance (adc16_overflow _ _ _)
  addition := State.flag_toHl_advance rfl
  carry := State.flag_toHl_advance rfl
  pc := by simp
  frame := s.frame_toHl _ 2

theorem State.sbcHl_spec (s : State) (b : Word) :
    WideBorrowed s b ((s.toHl (sbc16 s.hl b (s.flag .c))).advance 2) where
  result := by rw [State.hl_toHl_advance, sbc16_result]
  szyx := by rw [State.hl_toHl_advance]; exact s.hasWideSzyx_toHl _ 2 rfl rfl rfl rfl
  half := State.flag_toHl_advance (sbc16_half _ _ _)
  overflow := State.flag_toHl_advance (sbc16_overflow _ _ _)
  subtraction := State.flag_toHl_advance rfl
  carry := State.flag_toHl_advance (sbc16_borrow _ _ _)
  pc := by simp
  frame := s.frame_toHl _ 2

/-- Settles O52: each is `toHl` with its operation. -/
theorem wordAdcAndSbc : Obligations.WordAdcAndSbc := fun s p =>
  ⟨⟨_, rfl, s.adcHl_spec (s.getPair p)⟩, _, rfl, s.sbcHl_spec (s.getPair p)⟩

/-- A word one up, as a number (R143). -/
theorem word_succ (v : Word) : v + 1 = BitVec.ofNat 16 (v.toNat + 1) := by
  apply BitVec.eq_of_toNat_eq; simp

/-- A word one down, as a number (R143). -/
theorem word_pred (v : Word) : v - 1 = BitVec.ofNat 16 (v.toNat + 65535) := by
  apply BitVec.eq_of_toNat_eq; simp [BitVec.toNat_sub, Nat.add_comm]

/-- Settles O53: each is a load of the stepped word. -/
theorem wordIncDec : Obligations.WordIncDec := fun s =>
  ⟨fun p => ⟨_, rfl, word_succ (s.getPair p) ▸ s.setPair_loaded p _ 1⟩,
    fun p => ⟨_, rfl, word_pred (s.getPair p) ▸ s.setPair_loaded p _ 1⟩,
    fun x => ⟨_, rfl, word_succ (s.getIdx x) ▸ s.setIdx_loaded x _ 2⟩,
    fun x => ⟨_, rfl, word_pred (s.getIdx x) ▸ s.setIdx_loaded x _ 2⟩⟩

/-! ## Block loads and compares -/

/-- Settles O56: each is one iteration, and `repeatLd` stays at PC while BC is not 0. -/
theorem blockLoads : Obligations.BlockLoads := fun s =>
  ⟨⟨_, rfl, s.ldIteration_spec .inc⟩, ⟨_, rfl, s.ldIteration_spec .dec⟩, ⟨_, rfl, s.repeatLd_spec .inc⟩,
    _, rfl, s.repeatLd_spec .dec⟩

/-- Settles O57: each is one iteration, and `repeatCp` stays at PC while BC is not 0 and the byte does not match. -/
theorem blockCompares : Obligations.BlockCompares := fun s =>
  ⟨⟨_, rfl, s.cpIteration_spec .inc⟩, ⟨_, rfl, s.cpIteration_spec .dec⟩, ⟨_, rfl, s.repeatCp_spec .inc⟩,
    _, rfl, s.repeatCp_spec .dec⟩

end Sys2Proof.Machine
end

section
/-! PROOFS of the byte loads and stores: each writes a register, half an index register, r8[y] or one byte of memory, and
advances PC. -/

namespace Sys2Proof.Machine

theorem State.setReg_loaded (s : State) (r : Reg8) (v : Byte) (n : Word) :
    Loaded s (.reg r) v n ((s.setReg r v).advance n) :=
  .of_write (s.getReg_setReg_same r v) (s.setReg_pc r v) (s.frame_setReg r v [])

theorem State.setHalf_loaded (s : State) (x : Idx) (w : Half) (v : Byte) (n : Word) :
    Loaded s (.half x w) v n ((s.setHalf x w v).advance n) :=
  .of_write (s.value_setHalf x w v) (s.pc_setHalf x w v) (s.frame_setHalf x w v [])

theorem State.setLoc_loaded (s : State) (z : Loc8) (v : Byte) (n : Word) :
    Loaded s (s.target z) v n ((s.setLoc z v).advance n) :=
  .of_write (s.value_setLoc z v) (s.pc_setLoc z v) (s.frame_setLoc z v [])

theorem State.write_loaded (s : State) (a : Word) (v : Byte) (n : Word) :
    Loaded s (.mem a) v n ((s.write a v).advance n) :=
  .of_write (s.read_write_same a v) (s.write_pc a v) (s.frame_write a v [])

/-- Settles O31: the source byte is read in the start state, and the destination is written in it. -/
theorem byteLoads : Obligations.ByteLoads := fun s =>
  ⟨⟨_, rfl, s.write_loaded s.bc (s.getReg .a) 1⟩, ⟨_, rfl, s.write_loaded s.de (s.getReg .a) 1⟩,
    ⟨_, rfl, s.setReg_loaded .a (s.read s.bc) 1⟩, ⟨_, rfl, s.setReg_loaded .a (s.read s.de) 1⟩,
    fun nn => ⟨_, rfl, s.write_loaded nn (s.getReg .a) 3⟩, fun nn => ⟨_, rfl, s.setReg_loaded .a (s.read nn) 3⟩,
    fun y n => ⟨_, rfl, s.setLoc_loaded y n 2⟩, fun dst src => ⟨_, rfl, s.setReg_loaded dst (s.getReg src) 1⟩,
    fun dst => ⟨_, rfl, s.setReg_loaded dst (s.read s.hl) 1⟩,
    fun src => ⟨_, rfl, s.write_loaded s.hl (s.getReg src) 1⟩, fun x w n => ⟨_, rfl, s.setHalf_loaded x w n 3⟩,
    fun x d n => ⟨_, rfl, s.write_loaded (s.idxAddr x d) n 4⟩,
    fun x r d => ⟨_, rfl, s.setReg_loaded r (s.read (s.idxAddr x d)) 3⟩,
    fun x r d => ⟨_, rfl, s.write_loaded (s.idxAddr x d) (s.getReg r) 3⟩,
    fun x r w => ⟨_, rfl, s.setReg_loaded r (s.getHalf x w) 2⟩,
    fun x w r => ⟨_, rfl, s.setHalf_loaded x w (s.getReg r) 2⟩,
    fun x w v => ⟨_, rfl, s.setHalf_loaded x w (s.getHalf x v) 2⟩⟩

end Sys2Proof.Machine
end

section
/-! PROOFS of RES and SET: the byte with one bit written is stored at its destination, and in the copy register. -/

namespace Sys2Proof.Machine

/-- r8[z] written with the byte w, whose bits are those r8[z] held but for bit b (R261, R262). -/
theorem State.setLoc_bitWritten (s : State) (z : Loc8) {b : BitVec 3} {v : Bool} {w : Byte} (n : Word)
    (hw : ∀ k, k < 8 → w.getLsbD k = if k = b.toNat then v else (s.getLoc z).getLsbD k) :
    BitWritten s (s.target z) b v none n ((s.setLoc z w).advance n) where
  result k hk := by rw [Target.value_advance, State.value_setLoc, hw k hk, State.getLoc_eq]
  copied _ hr := nomatch hr
  pc := by simp
  frame := (s.frame_setLoc z w []).advance n

/-- The byte at a written with w, whose bits are those the byte held but for bit b, and w copied (R390, R391). -/
theorem State.storeCopy_bitWritten (s : State) (a : Word) (copy : Option Reg8) {b : BitVec 3} {v : Bool} {w : Byte}
    (n : Word) (hw : ∀ k, k < 8 → w.getLsbD k = if k = b.toNat then v else (s.read a).getLsbD k) :
    BitWritten s (.mem a) b v copy n ((s.storeCopy a w copy).advance n) where
  result k hk := by simpa [State.storeCopy, Target.value] using hw k hk
  copied := by rintro r rfl; simp [State.storeCopy, State.copyTo, Target.value]
  pc := by simp [State.storeCopy]
  frame := (s.frame_storeCopy a w copy []).advance n

/-- Settles O49: RES clears the bit with a mask and SET sets it with one, in the start state's byte. -/
theorem bitResetAndSet : Obligations.BitResetAndSet := fun s b =>
  ⟨fun z => ⟨_, rfl, s.setLoc_bitWritten z 2 (clearBit_getLsbD _ b)⟩,
    fun z => ⟨_, rfl, s.setLoc_bitWritten z 2 (setBit_getLsbD _ b)⟩,
    fun x d copy => ⟨_, rfl, s.storeCopy_bitWritten (s.idxAddr x d) copy 4 (clearBit_getLsbD _ b)⟩,
    fun x d copy => ⟨_, rfl, s.storeCopy_bitWritten (s.idxAddr x d) copy 4 (setBit_getLsbD _ b)⟩⟩

end Sys2Proof.Machine
end
